-- ==== Sys2Proof/Word.lean ====
section
/-!
DEFINITION. The word types of the part: a byte, a circuit number, a payload.
-/

namespace Sys2Proof

/-- One byte of either line, and every count and number the manual takes modulo 256
(00_scope.md section 5, "Counts modulo 256"). -/
abbrev Byte := BitVec 8

/-- A circuit number, 0 to 7 (R1). -/
abbrev CircuitId := Fin 8

/-- The bytes one cell of the Cell Pool holds; its length is the list's (R51, R56, R61). -/
abbrev Payload := List Byte

end Sys2Proof
end

