-- ==== Sys2Proof/Config.lean ====
section
/-!
DEFINITION. The numbers the part is built with. Every implementation of the part has the same ones:
the spec leaves no number to the implementation, so nothing here is a free value.
-/

namespace Sys2Proof.Config

/-- Cells of the Cell Pool (R51). -/
def poolCells : Nat := 256

/-- The greatest payload of one cell, in bytes (R51). -/
def cellBytes : Nat := 64

/-- Entries the Retry Queue can hold (R74). -/
def retryCapacity : Nat := 48

/-- Entries the Notice Queue can hold (R162). -/
def noticeCapacity : Nat := 16

/-- Notices one POLL delivers at most (R164). -/
def pollReports : Nat := 4

/-- Frames the intake queue can hold (R177, R178). -/
def intakeCapacity : Nat := 4

/-- Replies the reply queue can hold (R180). -/
def replyCapacity : Nat := 4

/-- The limit of an unreported count U (R158) and of an entry's transmissions (R74). -/
def byteLimit : Nat := 255

/-- The limit of every counter COUNTERS reports (R53, R98, R142, R177). -/
def counterLimit : Nat := 65535

/-- The greatest credit a CREDIT word may leave, which is the greatest window (R71). -/
def creditLimit : Nat := 32

/-- The smallest and the greatest window (R2, R9). -/
def windowMin : Nat := 2
def windowMax : Nat := 32

/-- The smallest and the greatest send depth (R2, R9). -/
def depthMin : Nat := 1
def depthMax : Nat := 32

/-- The send depth of an ACCEPT that gives none, and the depth after reset (R15, R3). -/
def depthDefault : Nat := 16

/-- The answer window after reset (R3). -/
def answerWindowDefault : Nat := 8

/-- The smallest and the greatest LENGTH of a host frame (R174). -/
def lengthMin : Nat := 2
def lengthMax : Nat := 82

/-- The greatest BODY of a host frame: LENGTH counts KIND and TAG too (section 10.2). -/
def bodyMax : Nat := 80

/-- The first byte of every host frame (R174). -/
def sync : Byte := 0xA5

/-- The three values a HELLO carries beside its side (R122). -/
def trunkVersion : Byte := 1
def circuitCount : Byte := 8
def helloCapacity : Byte := 48

/-- What IDENT reports of the part (R186, section 10.2). -/
def vendorLow : Byte := 0x71
def vendorHigh : Byte := 0x0C
def partCode : Byte := 0x08
def siliconRevision : Byte := 1

end Sys2Proof.Config
end

