-- ==== Sys2Proof/Syntax.lean ====
section
/-!
DEFINITION. The words of both lines and the commands of the part: one constructor of `Instr` for each row of
spec/opcode_table.json.
-/

namespace Sys2Proof

/-- The levels of the strap pins at a start, `true` for high (R195). -/
structure Straps where
  side : Bool
  baud1 : Bool
  baud0 : Bool
  deriving DecidableEq, Repr

/-- The ten control words with the value each carries (R74, section 10.4). -/
inductive ControlWord where
  /-- DIAL with the dialling side's window (R10). -/
  | dial (window : Byte)
  /-- ANSWER with the answering side's window (R15). -/
  | answer (window : Byte)
  /-- REJECT with its reason code (R13). -/
  | reject (reason : Byte)
  | hang
  | hangDone
  | quietAsk
  | quietOk
  | quietRefuse
  | wake
  /-- CREDIT with the cumulative count G (R66). -/
  | credit (count : Byte)
  deriving DecidableEq, Repr

/-- The fourteen link signals with their arguments (section 10.4). -/
inductive LinkSignal where
  | hello (side version circuits capacity : Byte)
  | ready
  | ack (n : Byte)
  | nak (n : Byte)
  | tune
  | tuneOk
  | napAsk
  | napOk
  | napRefuse
  | rouse
  | rouseOk
  | down
  | downOk
  | fault (cause : Byte)
  deriving DecidableEq, Repr

/-- A frame of the trunk (section 10.4): the three kinds the TYPE byte names. -/
inductive TrunkFrame where
  | data (sequence : Byte) (circuit : CircuitId) (payload : Payload)
  | control (sequence : Byte) (circuit : CircuitId) (word : ControlWord) (callNumber : Byte)
  | signal (s : LinkSignal)
  deriving DecidableEq, Repr

/-- The eighteen reply statuses (R181). -/
inductive Status where
  | ok | unknown | badLength | badCircuit | badValue | badState | notUp | napping | noBuffer | queueFull
  | empty | unread | holdoff | notQuiet | unacked | pendingNotice | holding | busy
  deriving DecidableEq, Repr

/-- The 27 request kinds by name (R179). -/
inductive RequestKind where
  | trunkUp | trunkDown | retune | nap | rouse | trunkStatus
  | dial | accept | refuse | hangup | bar | unbar | quiet | wake | options | circuitStatus
  | send | fetch | discard
  | poll | mask | dismiss
  | ident | set | get | counters | restart
  deriving DecidableEq, Repr

/-- The 27 request kinds with the arguments of their bodies (R193). An argument stays the byte the host
sent: its owner judges its range. -/
inductive Request where
  | trunkUp
  | trunkDown
  | retune
  | nap
  | rouse
  | trunkStatus
  | dial (circuit window depth : Byte)
  /-- ACCEPT: a window or depth byte of 0 means that none is given, as an absent byte does (R193). -/
  | accept (circuit window depth : Byte)
  | refuse (circuit : Byte)
  | hangup (circuit : Byte)
  | bar (circuit : Byte)
  | unbar (circuit : Byte)
  | quiet (circuit : Byte)
  | wake (circuit : Byte)
  | options (circuit autoQuiet answerWindow : Byte)
  | circuitStatus (circuit : Byte)
  | send (circuit : Byte) (payload : Payload)
  | fetch (circuit : Byte)
  | discard (circuit choice : Byte)
  | poll
  | mask (source kind setting : Byte)
  | dismiss (source kind : Byte)
  | ident
  | set (number low high : Byte)
  | get (number : Byte)
  | counters (clear : Byte)
  | restart
  deriving DecidableEq, Repr

/-- The commands of the part, one for each row of spec/opcode_table.json. A host request row carries the
TAG and the BODY of its frame (R174, R193); a cell row the sequence number, the circuit byte and what
its word carries (section 10.4). -/
inductive Instr where
  | trunkUp (tag : Byte) (body : List Byte)
  | trunkDown (tag : Byte) (body : List Byte)
  | retune (tag : Byte) (body : List Byte)
  | nap (tag : Byte) (body : List Byte)
  | rouse (tag : Byte) (body : List Byte)
  | trunkStatus (tag : Byte) (body : List Byte)
  | dial (tag : Byte) (body : List Byte)
  | accept (tag : Byte) (body : List Byte)
  | refuse (tag : Byte) (body : List Byte)
  | hangup (tag : Byte) (body : List Byte)
  | bar (tag : Byte) (body : List Byte)
  | unbar (tag : Byte) (body : List Byte)
  | quiet (tag : Byte) (body : List Byte)
  | wake (tag : Byte) (body : List Byte)
  | options (tag : Byte) (body : List Byte)
  | circuitStatus (tag : Byte) (body : List Byte)
  | send (tag : Byte) (body : List Byte)
  | fetch (tag : Byte) (body : List Byte)
  | discard (tag : Byte) (body : List Byte)
  | poll (tag : Byte) (body : List Byte)
  | mask (tag : Byte) (body : List Byte)
  | dismiss (tag : Byte) (body : List Byte)
  | ident (tag : Byte) (body : List Byte)
  | set (tag : Byte) (body : List Byte)
  | get (tag : Byte) (body : List Byte)
  | counters (tag : Byte) (body : List Byte)
  | restart (tag : Byte) (body : List Byte)
  /-- A request frame whose KIND is no request code (R179). -/
  | unknownRequest (kind tag : Byte) (body : List Byte)
  /-- A byte on HRX; `stopBit` is false where its stop bit is missing (R174). -/
  | hostByteReceived (value : Byte) (stopBit : Bool)
  | gapTimerExpiry
  | replySent
  | restartStart (straps : Straps)
  | powerOn (straps : Straps)
  | resetPinLow
  | resetPinHigh (straps : Straps)
  | incomingDataCell (sequence circuit : Byte) (payload : Payload)
  | incomingDial (sequence circuit callNumber window : Byte)
  | incomingAnswer (sequence circuit callNumber window : Byte)
  | incomingReject (sequence circuit callNumber reason : Byte)
  | incomingHang (sequence circuit callNumber : Byte)
  | incomingHangDone (sequence circuit callNumber : Byte)
  | incomingQuietAsk (sequence circuit callNumber : Byte)
  | incomingQuietOk (sequence circuit callNumber : Byte)
  | incomingQuietRefuse (sequence circuit callNumber : Byte)
  | incomingWake (sequence circuit callNumber : Byte)
  | incomingCredit (sequence circuit callNumber count : Byte)
  | helloReceived (side version circuits capacity : Byte)
  | readyReceived
  | ackReceived (n : Byte)
  | nakReceived (n : Byte)
  | tuneReceived
  | tuneOkReceived
  | napAskReceived
  | napOkReceived
  | napRefuseReceived
  | rouseReceived
  | rouseOkReceived
  | downReceived
  | downOkReceived
  | faultReceived (cause : Byte)
  | frameFailsCheck
  | trunkFrameComplete
  | dialTimerExpiry (circuit : CircuitId)
  | ringTimerExpiry (circuit : CircuitId)
  | holdoffExpiry (circuit : CircuitId)
  | replayTimerExpiry
  | errorWindowExpiry
  | repeatTimerExpiry
  | trainTimerExpiry
  | retuneTimerExpiry
  | closeTimerExpiry
  | faultHoldExpiry
  | napAskTimerExpiry
  | rouseTimerExpiry
  deriving DecidableEq, Repr

end Sys2Proof
end

