-- ==== Sys2Proof/Decode.lean ====
section
/-!
DEFINITION. The layouts of both lines (chapter Message and Frame Formats): check values, request bodies,
host frames, trunk frames, and the command each received run of trunk bytes stands for.
-/

namespace Sys2Proof

/-! ## Check values (R192) -/

/-- One bit of the 16-bit CRC, most significant bit first: x^16 + x^12 + x^5 + 1 (R192). -/
def crc16Bit (r : BitVec 16) : BitVec 16 :=
  if r.msb then (r <<< 1) ^^^ 0x1021 else r <<< 1

/-- One byte of the 16-bit CRC (R192). -/
def crc16Byte (r : BitVec 16) (b : Byte) : BitVec 16 :=
  let r := r ^^^ (b.setWidth 16 <<< 8)
  crc16Bit (crc16Bit (crc16Bit (crc16Bit (crc16Bit (crc16Bit (crc16Bit (crc16Bit r)))))))

/-- The 16-bit CRC: the register starts at FFFFh, and no final inversion is applied (R192). -/
def crc16 (bytes : List Byte) : BitVec 16 := bytes.foldl crc16Byte 0xFFFF

/-- One bit of the 32-bit CRC, least significant bit first (R192). The register stands bit-reflected, the coefficient
of x^31 in bit 0, and the constant is the polynomial of R192 with its bits in that order (PRESUMED, log 27). -/
def crc32Bit (r : BitVec 32) : BitVec 32 :=
  if r.getLsbD 0 then (r >>> 1) ^^^ 0xEDB88320 else r >>> 1

/-- One byte of the 32-bit CRC, on the reflected register (R192; PRESUMED, log 27). -/
def crc32Byte (r : BitVec 32) (b : Byte) : BitVec 32 :=
  let r := r ^^^ b.setWidth 32
  crc32Bit (crc32Bit (crc32Bit (crc32Bit (crc32Bit (crc32Bit (crc32Bit (crc32Bit r)))))))

/-- The 32-bit CRC: the register starts at FFFFFFFFh and is inverted at the end (R192). R192 does not say in which
bit order the final register is read as the value that is sent least significant byte first: that it is read
reflected, the coefficient of x^31 in bit 0, is the model's choice (PRESUMED, log 27). -/
def crc32 (bytes : List Byte) : BitVec 32 := ~~~ (bytes.foldl crc32Byte 0xFFFFFFFF)

/-! ## Numbers of several bytes, least significant byte first (chapter 10, opening) -/

/-- A 16-bit number as its two bytes. -/
def le16 (w : BitVec 16) : List Byte := [w.setWidth 8, (w >>> 8).setWidth 8]

/-- A 32-bit number as its four bytes. -/
def le32 (w : BitVec 32) : List Byte :=
  [w.setWidth 8, (w >>> 8).setWidth 8, (w >>> 16).setWidth 8, (w >>> 24).setWidth 8]

/-- A count as two bytes. -/
def count16 (n : Nat) : List Byte := le16 (BitVec.ofNat 16 n)

/-- A count as one byte. -/
def count8 (n : Nat) : Byte := BitVec.ofNat 8 n

/-- The number two bytes stand for. -/
def valueOf16 (low high : Byte) : Nat := low.toNat + 256 * high.toNat

/-- A mark as a byte: 1 when set, 0 when clear (section 10.2). -/
def markByte (b : Bool) : Byte := if b then 1 else 0

/-! ## Request codes and bodies (R193, section 10.5) -/

/-- The request codes (section 10.5). -/
def requestCode : RequestKind → Byte
  | .trunkUp => 0x01 | .trunkDown => 0x02 | .retune => 0x03 | .nap => 0x04 | .rouse => 0x05 | .trunkStatus => 0x06
  | .dial => 0x10 | .accept => 0x11 | .refuse => 0x12 | .hangup => 0x13 | .bar => 0x14 | .unbar => 0x15
  | .quiet => 0x16 | .wake => 0x17 | .options => 0x18 | .circuitStatus => 0x19
  | .send => 0x20 | .fetch => 0x21 | .discard => 0x22
  | .poll => 0x30 | .mask => 0x31 | .dismiss => 0x32
  | .ident => 0x40 | .set => 0x41 | .get => 0x42 | .counters => 0x43 | .restart => 0x44

/-- The 27 request kinds, in the order of their codes. -/
def requestKinds : List RequestKind :=
  [.trunkUp, .trunkDown, .retune, .nap, .rouse, .trunkStatus,
   .dial, .accept, .refuse, .hangup, .bar, .unbar, .quiet, .wake, .options, .circuitStatus,
   .send, .fetch, .discard, .poll, .mask, .dismiss, .ident, .set, .get, .counters, .restart]

/-- The request kind a KIND byte names, none for every other value (R179). -/
def requestKindOf (kind : Byte) : Option RequestKind :=
  requestKinds.find? fun k => requestCode k == kind

/-- The request a kind and a body make, none where the body's length is not one the kind accepts
(R179, R193). -/
def requestOf : RequestKind → List Byte → Option Request
  | .trunkUp, [] => some .trunkUp
  | .trunkDown, [] => some .trunkDown
  | .retune, [] => some .retune
  | .nap, [] => some .nap
  | .rouse, [] => some .rouse
  | .trunkStatus, [] => some .trunkStatus
  | .dial, [c, w, d] => some (.dial c w d)
  | .accept, [c] => some (.accept c 0 0)
  | .accept, [c, w] => some (.accept c w 0)
  | .accept, [c, w, d] => some (.accept c w d)
  | .refuse, [c] => some (.refuse c)
  | .hangup, [c] => some (.hangup c)
  | .bar, [c] => some (.bar c)
  | .unbar, [c] => some (.unbar c)
  | .quiet, [c] => some (.quiet c)
  | .wake, [c] => some (.wake c)
  | .options, [c, a, w] => some (.options c a w)
  | .circuitStatus, [c] => some (.circuitStatus c)
  | .send, c :: payload => if payload.length < Config.bodyMax then some (.send c payload) else none
  | .fetch, [c] => some (.fetch c)
  | .discard, [c, choice] => some (.discard c choice)
  | .poll, [] => some .poll
  | .mask, [source, kind, setting] => some (.mask source kind setting)
  | .dismiss, [source, kind] => some (.dismiss source kind)
  | .ident, [] => some .ident
  | .set, [number, low, high] => some (.set number low high)
  | .get, [number] => some (.get number)
  | .counters, [flag] => some (.counters flag)
  | .restart, [] => some .restart
  | _, _ => none

/-- The Host Port's two checks of a request, in their order (R179). -/
def readRequest (kind : Byte) (body : List Byte) : Except Status Request :=
  match requestKindOf kind with
  | none => .error .unknown
  | some k =>
    match requestOf k body with
    | none => .error .badLength
    | some r => .ok r

/-- The reply statuses' codes (section 10.5). -/
def statusCode : Status → Byte
  | .ok => 0x00 | .unknown => 0x01 | .badLength => 0x02 | .badCircuit => 0x03 | .badValue => 0x04
  | .badState => 0x05 | .notUp => 0x06 | .napping => 0x07 | .noBuffer => 0x08 | .queueFull => 0x09
  | .empty => 0x0A | .unread => 0x0B | .holdoff => 0x0C | .notQuiet => 0x0D | .unacked => 0x0E
  | .pendingNotice => 0x0F | .holding => 0x10 | .busy => 0x11

/-! ## Host frames (section 10.2) -/

/-- What the CHECK of a host frame covers: LENGTH, KIND, TAG and BODY (R192). -/
def hostCovered (kind tag : Byte) (body : List Byte) : List Byte :=
  count8 (body.length + 2) :: kind :: tag :: body

/-- The bytes of a host frame, in either direction (section 10.2). -/
def hostFrameBytes (kind tag : Byte) (body : List Byte) : List Byte :=
  Config.sync :: hostCovered kind tag body ++ le16 (crc16 (hostCovered kind tag body))

/-! ## Trunk frames (section 10.4) -/

/-- The control words' codes (section 10.5). -/
def wordCode : ControlWord → Byte
  | .dial _ => 1 | .answer _ => 2 | .reject _ => 3 | .hang => 4 | .hangDone => 5
  | .quietAsk => 6 | .quietOk => 7 | .quietRefuse => 8 | .wake => 9 | .credit _ => 10

/-- The value byte of a control cell; 0 where the word carries none (section 10.4). -/
def wordValue : ControlWord → Byte
  | .dial w => w | .answer w => w | .reject r => r | .credit n => n
  | .hang | .hangDone | .quietAsk | .quietOk | .quietRefuse | .wake => 0

/-- The link signals' codes (section 10.5). -/
def signalCode : LinkSignal → Byte
  | .hello .. => 1 | .ready => 2 | .ack _ => 3 | .nak _ => 4 | .tune => 5 | .tuneOk => 6 | .napAsk => 7
  | .napOk => 8 | .napRefuse => 9 | .rouse => 10 | .rouseOk => 11 | .down => 12 | .downOk => 13 | .fault _ => 14

/-- The argument bytes of a link signal (section 10.4). -/
def signalArguments : LinkSignal → List Byte
  | .hello side version circuits capacity => [side, version, circuits, capacity]
  | .ack n => [n]
  | .nak n => [n]
  | .fault cause => [cause]
  | .ready | .tune | .tuneOk | .napAsk | .napOk | .napRefuse | .rouse | .rouseOk | .down | .downOk => []

/-- A circuit number as the byte that carries it. -/
def circuitByte (c : CircuitId) : Byte := BitVec.ofNat 8 c.val

/-- The circuit a byte names; none outside 0 to 7 (R1, R88). -/
def circuitOf (b : Byte) : Option CircuitId :=
  if h : b.toNat < 8 then some ⟨b.toNat, h⟩ else none

/-- The bytes of a trunk frame that its check covers (section 10.4, R192). -/
def coveredBytes : TrunkFrame → List Byte
  | .data sequence circuit payload =>
    0x01 :: sequence :: circuitByte circuit :: count8 payload.length :: payload
  | .control sequence circuit word callNumber =>
    [0x02, sequence, circuitByte circuit, wordCode word, callNumber, wordValue word]
  | .signal s => 0x03 :: signalCode s :: signalArguments s

/-- The bytes of a trunk frame as the transmitter sends them (R192, R194). -/
def trunkFrameBytes (f : TrunkFrame) : List Byte :=
  match f with
  | .signal _ => coveredBytes f ++ le16 (crc16 (coveredBytes f))
  | .data .. | .control .. => coveredBytes f ++ le32 (crc32 (coveredBytes f))

/-- The command of a control word that arrives in a cell (R90). -/
def wordCommand (sequence circuit callNumber : Byte) : ControlWord → Instr
  | .dial w => .incomingDial sequence circuit callNumber w
  | .answer w => .incomingAnswer sequence circuit callNumber w
  | .reject r => .incomingReject sequence circuit callNumber r
  | .hang => .incomingHang sequence circuit callNumber
  | .hangDone => .incomingHangDone sequence circuit callNumber
  | .quietAsk => .incomingQuietAsk sequence circuit callNumber
  | .quietOk => .incomingQuietOk sequence circuit callNumber
  | .quietRefuse => .incomingQuietRefuse sequence circuit callNumber
  | .wake => .incomingWake sequence circuit callNumber
  | .credit n => .incomingCredit sequence circuit callNumber n

/-- The command of a link signal that arrives (R93). -/
def signalCommand : LinkSignal → Instr
  | .hello side version circuits capacity => .helloReceived side version circuits capacity
  | .ready => .readyReceived
  | .ack n => .ackReceived n
  | .nak n => .nakReceived n
  | .tune => .tuneReceived
  | .tuneOk => .tuneOkReceived
  | .napAsk => .napAskReceived
  | .napOk => .napOkReceived
  | .napRefuse => .napRefuseReceived
  | .rouse => .rouseReceived
  | .rouseOk => .rouseOkReceived
  | .down => .downReceived
  | .downOk => .downOkReceived
  | .fault cause => .faultReceived cause

/-- The command of a frame that arrives and passes its check. -/
def frameCommand : TrunkFrame → Instr
  | .data sequence circuit payload => .incomingDataCell sequence (circuitByte circuit) payload
  | .control sequence circuit word callNumber => wordCommand sequence (circuitByte circuit) callNumber word
  | .signal s => signalCommand s

/-- The control word of a word code and a value byte; none for a code that is not one of the ten (R88).
The value byte of a word that carries no value is not read (section 10.4). -/
def wordOf (code value : Byte) : Option ControlWord :=
  match code.toNat with
  | 1 => some (.dial value) | 2 => some (.answer value) | 3 => some (.reject value) | 4 => some .hang
  | 5 => some .hangDone | 6 => some .quietAsk | 7 => some .quietOk | 8 => some .quietRefuse | 9 => some .wake
  | 10 => some (.credit value)
  | _ => none

/-- Whether a byte is the code of side A or of side B (R194). -/
def isSideCode (b : Byte) : Bool := b == 0 || b == 1

/-- The link signal of a code and its arguments; none for a code that is not one of the fourteen, for a wrong
number of arguments, and for a HELLO whose side byte is no side (R88, R194). -/
def signalOf (code : Byte) (arguments : List Byte) : Option LinkSignal :=
  match code.toNat, arguments with
  | 1, [side, version, circuits, capacity] =>
    if isSideCode side then some (.hello side version circuits capacity) else none
  | 2, [] => some .ready
  | 3, [n] => some (.ack n)
  | 4, [n] => some (.nak n)
  | 5, [] => some .tune
  | 6, [] => some .tuneOk
  | 7, [] => some .napAsk
  | 8, [] => some .napOk
  | 9, [] => some .napRefuse
  | 10, [] => some .rouse
  | 11, [] => some .rouseOk
  | 12, [] => some .down
  | 13, [] => some .downOk
  | 14, [cause] => some (.fault cause)
  | _, _ => none

/-- Whether a payload's length is one a data cell may have (R88). -/
def payloadFits (payload : Payload) : Bool :=
  decide (1 ≤ payload.length ∧ payload.length ≤ Config.cellBytes)

/-- The frame whose covered bytes these are; none where the layout the TYPE byte names is not kept (R194). -/
def coveredFrame : List Byte → Option TrunkFrame
  | 0x01 :: sequence :: circuit :: length :: payload =>
    match circuitOf circuit with
    | some c => if payload.length = length.toNat ∧ payloadFits payload then some (.data sequence c payload) else none
    | none => none
  | [0x02, sequence, circuit, code, callNumber, value] =>
    match circuitOf circuit, wordOf code value with
    | some c, some w => some (.control sequence c w callNumber)
    | _, _ => none
  | 0x03 :: code :: arguments =>
    match signalOf code arguments with
    | some s => some (.signal s)
    | none => none
  | _ => none

/-- The frame a run of bytes between the line's marks is, none where it fails its check (R194). -/
def readTrunkFrame (run : List Byte) : Option TrunkFrame :=
  let size := if run.head? = some 0x03 then 2 else 4
  let covered := run.take (run.length - size)
  let check := run.drop (run.length - size)
  if check = (if size = 2 then le16 (crc16 covered) else le32 (crc32 covered)) then coveredFrame covered else none

/-- The command a run of bytes received on the trunk stands for: the frame's own, or FRAME_FAILS_CHECK
(R88, R194). -/
def runCommand (run : List Byte) : Instr :=
  match readTrunkFrame run with
  | some f => frameCommand f
  | none => .frameFailsCheck

/-! ## The host's fixed name -/

/-- The command a word spells by the opcode table's bits: no row of the table gives bits, so no word spells
one (log 22). -/
def decodeTableWord (_nbits _w : Nat) : Option Instr := none

end Sys2Proof
end

