-- ==== Sys2Proof/Machine/PerCircuit.lean ====
section
/-!
DEFINITION. Eight things of one kind, one for each circuit: the set is fixed (R1).
-/

namespace Sys2Proof.Machine

/-- One value for each of the eight circuits (R1). -/
structure PerCircuit (α : Type) where
  c0 : α
  c1 : α
  c2 : α
  c3 : α
  c4 : α
  c5 : α
  c6 : α
  c7 : α
  deriving DecidableEq, Repr

/-- The value of circuit `c`. -/
def PerCircuit.get {α : Type} (v : PerCircuit α) (c : CircuitId) : α :=
  match c with
  | 0 => v.c0 | 1 => v.c1 | 2 => v.c2 | 3 => v.c3 | 4 => v.c4 | 5 => v.c5 | 6 => v.c6 | 7 => v.c7

/-- `v` with circuit `c`'s value replaced. -/
def PerCircuit.set {α : Type} (v : PerCircuit α) (c : CircuitId) (x : α) : PerCircuit α :=
  match c with
  | 0 => { v with c0 := x } | 1 => { v with c1 := x } | 2 => { v with c2 := x } | 3 => { v with c3 := x }
  | 4 => { v with c4 := x } | 5 => { v with c5 := x } | 6 => { v with c6 := x } | 7 => { v with c7 := x }

/-- The same value for every circuit. -/
def PerCircuit.all {α : Type} (x : α) : PerCircuit α := ⟨x, x, x, x, x, x, x, x⟩

/-- Every circuit's value under one function. -/
def PerCircuit.map {α β : Type} (v : PerCircuit α) (f : α → β) : PerCircuit β :=
  ⟨f v.c0, f v.c1, f v.c2, f v.c3, f v.c4, f v.c5, f v.c6, f v.c7⟩

/-- The eight values a function gives. -/
def PerCircuit.ofFn {α : Type} (f : CircuitId → α) : PerCircuit α := ⟨f 0, f 1, f 2, f 3, f 4, f 5, f 6, f 7⟩

/-- The eight circuit numbers, in order. -/
def circuitIds : List CircuitId := [0, 1, 2, 3, 4, 5, 6, 7]

/-- The circuits in turn, starting with the one after `p` and wrapping from 7 to 0 (R112, R113). -/
def circuitsAfter (p : CircuitId) : List CircuitId := circuitIds.map fun k => p + 1 + k

/-- The sum of a count over the eight circuits. -/
def circuitSum (f : CircuitId → Nat) : Nat := (circuitIds.map f).sum

end Sys2Proof.Machine
end

