-- ==== Sys2Proof/Machine/State.lean ====
section
/-!
DEFINITION. Everything the part holds, block by block, and its values after a start (R189).
-/

namespace Sys2Proof.Machine

/-! ## Circuit Controller (R2) -/

/-- The ten states of a circuit (R2, section 1.2). -/
inductive CircuitState where
  | idle | dialing | ringing | connected | quieting | quiet | waking | releasing | barred | failed
  deriving DecidableEq, Repr

/-- Whether this side dialled the call or was rung (R2). -/
inductive Role where
  | caller | callee
  deriving DecidableEq, Repr

/-- The reasons a circuit's latest state change can have (R2). -/
inductive CircuitCause where
  | host | peer | crossed | superseded | timeout | noAnswer | refused | barred | held | overrun | quietRefused
  | trunkLost | trunkClosed
  deriving DecidableEq, Repr

/-- The circuit timer with the milliseconds it was last started with (R2; log 3). -/
inductive CircuitTimer where
  | stopped
  | dial (ms : Nat)
  | ring (ms : Nat)
  deriving DecidableEq, Repr

/-- A circuit context (R2). `holdoff` is the milliseconds it was last started with, absent when it is not
running (log 3). -/
structure Context where
  state : CircuitState
  callNumber : Byte
  role : Option Role
  window : Option Nat
  sendDepth : Nat
  creditLimit : Byte
  sentCount : Byte
  granted : Byte
  receivedCount : Byte
  quietMarker : Bool
  holdoff : Option Nat
  askSinceRefusal : Bool
  autoQuiet : Bool
  answerWindow : Nat
  timer : CircuitTimer
  refusedMarker : Bool
  lastCause : Option CircuitCause
  deriving DecidableEq, Repr

/-- A context after a start (R3). -/
def Context.atStart : Context where
  state := .idle
  callNumber := 0
  role := none
  window := none
  sendDepth := 16
  creditLimit := 0
  sentCount := 0
  granted := 0
  receivedCount := 0
  quietMarker := false
  holdoff := none
  askSinceRefusal := false
  autoQuiet := false
  answerWindow := 8
  timer := .stopped
  refusedMarker := false
  lastCause := none

/-! ## Buffer Manager (R51, R53, R56, R61) -/

/-- The cells of one circuit: its send queue (R56), its receive queue (R61), each oldest first, and the number
of its reserved-unused cells (R51). -/
structure Cells where
  sendQueue : List Payload
  receiveQueue : List Payload
  reserved : Nat
  deriving DecidableEq, Repr

/-- A circuit's cells after a start (R51). -/
def Cells.atStart : Cells where
  sendQueue := []
  receiveQueue := []
  reserved := 0

/-- The Buffer Manager: the Cell Pool and its three counters (R51, R53). Cells have no identity, so the free
ones are a count (log 18). -/
structure BufferManager where
  free : Nat
  cells : PerCircuit Cells
  lostCells : Nat
  staleCells : Nat
  badWords : Nat
  deriving DecidableEq, Repr

/-- The Buffer Manager after a start (R51, R53). -/
def BufferManager.atStart : BufferManager where
  free := 256
  cells := .all .atStart
  lostCells := 0
  staleCells := 0
  badWords := 0

/-! ## Retry Unit (R74, R75) -/

/-- What an entry of the Retry Queue keeps: a pool cell, or a control word with its call number (R74). -/
inductive EntryContent where
  | data (payload : Payload)
  | control (word : ControlWord) (callNumber : Byte)
  deriving DecidableEq, Repr

/-- An entry of the Retry Queue (R74). -/
structure RetryEntry where
  sequence : Byte
  circuit : CircuitId
  content : EntryContent
  transmissions : Nat
  deriving DecidableEq, Repr

/-- The Retry Unit (R74, R75, R98). `replayPointer` is the place in `entries` of the entry it stands on
(log 25); `replayTimer` the milliseconds it was last started with, absent when stopped (log 3). -/
structure RetryUnit where
  entries : List RetryEntry
  nextSequence : Byte
  replayPointer : Option Nat
  replayTimer : Option Nat
  replayCounter : Nat
  replays : Nat
  straySignals : Nat
  deriving DecidableEq, Repr

/-- The Retry Unit after a start (R74, R75, R98). -/
def RetryUnit.atStart : RetryUnit where
  entries := []
  nextSequence := 0
  replayPointer := none
  replayTimer := none
  replayCounter := 0
  replays := 0
  straySignals := 0

/-! ## Receive Checker (R87) -/

/-- The Receive Checker (R87, R98). `expected` is E. -/
structure ReceiveChecker where
  expected : Byte
  nakOutstanding : Bool
  errorCounter : Nat
  errorWindow : Option Nat
  thresholdReported : Bool
  checkErrors : Nat
  deriving DecidableEq, Repr

/-- The Receive Checker after a start (R87, R98). -/
def ReceiveChecker.atStart : ReceiveChecker where
  expected := 0
  nakOutstanding := false
  errorCounter := 0
  errorWindow := none
  thresholdReported := false
  checkErrors := 0

/-! ## Transmit Block (R99, R108) -/

/-- The words a REQUEST slot can hold (R99). -/
inductive RequestWord where
  | dial (window : Byte)
  | hang
  | quietAsk
  | wake
  deriving DecidableEq, Repr

/-- The words an ANSWER slot can hold (R99). -/
inductive AnswerWord where
  | answer (window : Byte)
  | reject (reason : Byte)
  | hangDone
  | quietOk
  | quietRefuse
  deriving DecidableEq, Repr

/-- A word in a REQUEST slot with its call number and its two holds (R99, R103). -/
structure RequestSlot where
  word : RequestWord
  callNumber : Byte
  heldForDraining : Bool
  heldForRouse : Bool
  deriving DecidableEq, Repr

/-- A word in an ANSWER slot with its call number (R99). -/
structure AnswerSlot where
  word : AnswerWord
  callNumber : Byte
  deriving DecidableEq, Repr

/-- A CREDIT in its slot (R99). -/
structure CreditSlot where
  callNumber : Byte
  count : Byte
  deriving DecidableEq, Repr

/-- The slots of one circuit; `overflow` is the call number of the stale HANG there (R99). -/
structure Slots where
  request : Option RequestSlot
  overflow : Option Byte
  answer : Option AnswerSlot
  credit : Option CreditSlot
  deriving DecidableEq, Repr

/-- A circuit's slots, all empty (R99). -/
def Slots.empty : Slots where
  request := none
  overflow := none
  answer := none
  credit := none

/-- The two signals an ACKNAK slot can hold (R99). -/
inductive AckNak where
  | ack (n : Byte)
  | nak (n : Byte)
  deriving DecidableEq, Repr

/-- The LINK slot (R99): the standing signal, its due mark and the answer signal. -/
structure LinkSlot where
  standing : Option LinkSignal
  due : Bool
  answer : Option LinkSignal
  deriving DecidableEq, Repr

/-- The LINK slot, empty (R99). -/
def LinkSlot.empty : LinkSlot where
  standing := none
  due := false
  answer := none

/-- Where the frame in transmission came from (R108). -/
inductive Origin where
  | linkAnswer | linkStanding | ackNak | resend | firstControl | firstData
  deriving DecidableEq, Repr

/-- The frame in transmission (R108): its origin and the frame as it was built, which holds the link signal, or
the sequence number and the circuit. -/
structure WireFrame where
  origin : Origin
  frame : TrunkFrame
  deriving DecidableEq, Repr

/-- The Transmit Block (R99). The transmitter is busy exactly while `wire` holds a frame. -/
structure TransmitBlock where
  slots : PerCircuit Slots
  ackNak : Option AckNak
  linkSlot : LinkSlot
  wire : Option WireFrame
  controlPointer : CircuitId
  dataPointer : CircuitId
  deriving DecidableEq, Repr

/-- The Transmit Block after a start (R99). -/
def TransmitBlock.atStart : TransmitBlock where
  slots := .all .empty
  ackNak := none
  linkSlot := .empty
  wire := none
  controlPointer := 7
  dataPointer := 7

/-! ## Link Controller (R116, R143) -/

/-- The nine trunk states (R116). -/
inductive TrunkState where
  | down | training | up | retune | napAsking | nap | rousing | closing | fault
  deriving DecidableEq, Repr

/-- The reasons a trunk state change can have (R116). -/
inductive TrunkCause where
  | host | peer | noPeer | sideClash | version | replayLimit | errorThreshold | retuneLimit | peerFault
  | peerRestart | napRefused | napTimeout | rouseTimeout | closeTimeout
  deriving DecidableEq, Repr

/-- What the state timer runs as (R116, R143). -/
inductive StateTimerKind where
  | train | retune | close | faultHold | napAsk | rouse
  deriving DecidableEq, Repr

/-- The state timer while it runs: as which timer, and for how many milliseconds it was last started (log 3). -/
structure RunningTimer where
  kind : StateTimerKind
  ms : Nat
  deriving DecidableEq, Repr

/-- The Link Controller (R116, R143). -/
structure LinkController where
  state : TrunkState
  cause : Option TrunkCause
  retuneCounter : Nat
  peerHeard : Bool
  peerReady : Bool
  readySent : Bool
  tuneHeard : Bool
  tuneOkReceived : Bool
  tuneOkSent : Bool
  echo : Bool
  peerCalling : Bool
  holdElapsed : Bool
  napGranted : Bool
  repeatTimer : Option Nat
  stateTimer : Option RunningTimer
  retunes : Nat
  faults : Nat
  deriving DecidableEq, Repr

/-- The Link Controller after a start (R116, R142, R143). -/
def LinkController.atStart : LinkController where
  state := .down
  cause := none
  retuneCounter := 0
  peerHeard := false
  peerReady := false
  readySent := false
  tuneHeard := false
  tuneOkReceived := false
  tuneOkSent := false
  echo := false
  peerCalling := false
  holdElapsed := false
  napGranted := false
  repeatTimer := none
  stateTimer := none
  retunes := 0
  faults := 0

/-! ## Notice Unit (R157, R158, R162) -/

/-- The 27 notice pairs (R157). -/
inductive Pair where
  | trunkState
  | trunkError
  | portError
  | state (c : CircuitId)
  | arrived (c : CircuitId)
  | room (c : CircuitId)
  deriving DecidableEq, Repr

/-- A pair's record (R158); `unreported` is U. -/
structure NoticeRecord where
  latch : Bool
  mask : Bool
  unreported : Nat
  queued : Bool
  deriving DecidableEq, Repr

/-- A pair's record after a start (R173). -/
def NoticeRecord.atStart : NoticeRecord where
  latch := false
  mask := false
  unreported := 0
  queued := false

/-- The records of one circuit's three pairs. -/
structure CircuitRecords where
  state : NoticeRecord
  arrived : NoticeRecord
  room : NoticeRecord
  deriving DecidableEq, Repr

/-- The 27 records (R158). -/
structure RecordTable where
  trunkState : NoticeRecord
  trunkError : NoticeRecord
  portError : NoticeRecord
  circuits : PerCircuit CircuitRecords
  deriving DecidableEq, Repr

/-- The Notice Unit (R158, R162, R163). `raised` is the model's own: the occurrences the claim in progress has
reported and that are not yet taken (R161; log 6); it is empty between commands. -/
structure NoticeUnit where
  records : RecordTable
  queue : List Pair
  attn : Bool
  raised : List Pair
  deriving DecidableEq, Repr

/-- The Notice Unit after a start (R173). -/
def NoticeUnit.atStart : NoticeUnit where
  records :=
    { trunkState := .atStart, trunkError := .atStart, portError := .atStart,
      circuits := .all ⟨.atStart, .atStart, .atStart⟩ }
  queue := []
  attn := false
  raised := []

/-! ## Host Port (R174, R178, R180, R182, R186) -/

/-- The receive framer (R174). `collecting` keeps the LENGTH byte and the bytes after it; `awaitingCheck` keeps
the whole covered frame and the first CHECK byte once it has come. -/
inductive Framer where
  | hunting
  | awaitingLength
  | collecting (length : Byte) (bytes : List Byte)
  | awaitingCheck (length : Byte) (bytes : List Byte) (firstCheck : Option Byte)
  deriving DecidableEq, Repr

/-- A good request frame (R177). -/
structure HostFrame where
  kind : Byte
  tag : Byte
  body : List Byte
  deriving DecidableEq, Repr

/-- A built reply (R180). -/
structure Reply where
  status : Status
  tag : Byte
  body : List Byte
  deriving DecidableEq, Repr

/-- How far a RESTART has come: none taken, its reply still to leave (R190), its reply left (R191). -/
inductive RestartStage where
  | none | waiting | replyLeft
  deriving DecidableEq, Repr

/-- Side A or side B (R195). -/
inductive Side where
  | a | b
  deriving DecidableEq, Repr

/-- The host line speeds by their codes 0 to 3 (R195). -/
inductive LineSpeed where
  | baud115200 | baud460800 | baud921600 | baud3000000
  deriving DecidableEq, Repr

/-- How the part last started (R186). -/
inductive StartCause where
  | power | pin | request
  deriving DecidableEq, Repr

/-- The sixteen parameters by name (R182). -/
inductive Param where
  | ackTimeout | replayLimit | errorThreshold | errorWindow | retuneTimeout | retuneLimit | faultHold
  | trainTimeout | helloInterval | dialTimeout | ringTimeout | quietHoldoff | napAskTimeout | rouseTimeout
  | closeTimeout | autoFollow
  deriving DecidableEq, Repr

/-- The Parameter Table (R182). -/
structure ParameterTable where
  ackTimeout : Nat
  replayLimit : Nat
  errorThreshold : Nat
  errorWindow : Nat
  retuneTimeout : Nat
  retuneLimit : Nat
  faultHold : Nat
  trainTimeout : Nat
  helloInterval : Nat
  dialTimeout : Nat
  ringTimeout : Nat
  quietHoldoff : Nat
  napAskTimeout : Nat
  rouseTimeout : Nat
  closeTimeout : Nat
  autoFollow : Nat
  deriving DecidableEq, Repr

/-- The Parameter Table at its defaults (R182). -/
def ParameterTable.defaults : ParameterTable where
  ackTimeout := 2
  replayLimit := 4
  errorThreshold := 8
  errorWindow := 100
  retuneTimeout := 20
  retuneLimit := 3
  faultHold := 50
  trainTimeout := 100
  helloInterval := 1
  dialTimeout := 250
  ringTimeout := 200
  quietHoldoff := 2
  napAskTimeout := 5
  rouseTimeout := 10
  closeTimeout := 10
  autoFollow := 1

/-- The Host Port (R174, R176 to R182, R186, R190). The head of `replies` is the reply that is leaving on
HTX (R180, `State.htx`). -/
structure HostPort where
  framer : Framer
  intake : List HostFrame
  replies : List Reply
  restart : RestartStage
  parameters : ParameterTable
  frameErrors : Nat
  overruns : Nat
  side : Side
  speed : LineSpeed
  startCause : StartCause
  freshStart : Bool
  deriving DecidableEq, Repr

/-- The Host Port after a start (R189). -/
def HostPort.atStart (side : Side) (speed : LineSpeed) (cause : StartCause) : HostPort where
  framer := .hunting
  intake := []
  replies := []
  restart := .none
  parameters := .defaults
  frameErrors := 0
  overruns := 0
  side := side
  speed := speed
  startCause := cause
  freshStart := true

/-! ## The part -/

/-- Whether the part runs: it runs while the RESET pin is high; with the pin low it is held, either since
power came, so that the start to come has cause POWER, or since a start, so that it has cause PIN (R188). -/
inductive Power where
  | running | heldSincePower | held
  deriving DecidableEq, Repr

/-- Everything the part holds, and the model's queue of commands that wait (log 2). -/
structure State where
  power : Power
  circuits : PerCircuit Context
  pool : BufferManager
  retry : RetryUnit
  checker : ReceiveChecker
  transmit : TransmitBlock
  link : LinkController
  notices : NoticeUnit
  port : HostPort
  pending : List Instr
  deriving DecidableEq, Repr

/-- The part right after a start (R189), with the sampled straps, the start's cause and the commands that
wait. -/
def State.atStart (side : Side) (speed : LineSpeed) (cause : StartCause) (pending : List Instr) : State where
  power := .running
  circuits := .all .atStart
  pool := .atStart
  retry := .atStart
  checker := .atStart
  transmit := .atStart
  link := .atStart
  notices := .atStart
  port := .atStart side speed cause
  pending := pending

/-- The machine after reset: started with cause POWER (R188, R189). The spec gives no strap levels: side A and
speed code 0, all straps low (DESIGN CHOICE, log 1). -/
def State.reset : State := State.atStart .a .baud115200 .power []

/-- No rule of the spec stops the part, so no command faults: this type has no value (safe, log 19). -/
inductive Fault where
  deriving DecidableEq, Repr

/-- Why a command would have no meaning. -/
inductive Refusal where
  /-- Raised by an arm of `exec` whose command has no meaning yet; no arm raises it. Safe: it only stops. -/
  | notModelled (mnemonic : String)
  deriving DecidableEq, Repr

/-- What a command answers. -/
abbrev StepOutcome := Host.Outcome State Fault Refusal

end Sys2Proof.Machine
end

