-- ==== Sys2Proof/Machine/Notices.lean ====
section
/-!
DEFINITION. The Notice Unit (chapter Notices): its pairs, occurrences, queue, refill scan and clearing.
-/

namespace Sys2Proof.Machine

/-- The 27 pairs in scan order (R157). -/
def scanOrder : List Pair :=
  [.trunkState, .trunkError, .portError] ++ circuitIds.flatMap fun c => [.state c, .arrived c, .room c]

/-- A pair's scan position (R157). -/
def scanPosition : Pair → Nat
  | .trunkState => 0
  | .trunkError => 1
  | .portError => 2
  | .state c => 3 + 3 * c.val
  | .arrived c => 4 + 3 * c.val
  | .room c => 5 + 3 * c.val

/-- A pair's record. -/
def RecordTable.get (t : RecordTable) : Pair → NoticeRecord
  | .trunkState => t.trunkState
  | .trunkError => t.trunkError
  | .portError => t.portError
  | .state c => (t.circuits.get c).state
  | .arrived c => (t.circuits.get c).arrived
  | .room c => (t.circuits.get c).room

/-- The records with one pair's replaced. -/
def RecordTable.set (t : RecordTable) (p : Pair) (r : NoticeRecord) : RecordTable :=
  match p with
  | .trunkState => { t with trunkState := r }
  | .trunkError => { t with trunkError := r }
  | .portError => { t with portError := r }
  | .state c => { t with circuits := t.circuits.set c { t.circuits.get c with state := r } }
  | .arrived c => { t with circuits := t.circuits.set c { t.circuits.get c with arrived := r } }
  | .room c => { t with circuits := t.circuits.set c { t.circuits.get c with room := r } }

/-- A pair's record in the Notice Unit (R158). -/
def NoticeUnit.record (n : NoticeUnit) (p : Pair) : NoticeRecord := n.records.get p

/-- The Notice Unit with one pair's record replaced. -/
def NoticeUnit.setRecord (n : NoticeUnit) (p : Pair) (r : NoticeRecord) : NoticeUnit :=
  { n with records := n.records.set p r }

/-- The Notice Unit with another queue; ATTN follows the queue in the same claim (R163). -/
def NoticeUnit.setQueue (n : NoticeUnit) (q : List Pair) : NoticeUnit :=
  { n with queue := q, attn := !q.isEmpty }

/-- Whether the Notice Queue can take an entry (R159, R162). -/
def NoticeUnit.hasRoom (n : NoticeUnit) : Bool := decide (n.queue.length < Config.noticeCapacity)

/-- An entry for the pair joins the tail of the queue and its queued flag is set (R159, R167, R171). -/
def NoticeUnit.enqueue (n : NoticeUnit) (p : Pair) : NoticeUnit :=
  (n.setRecord p { n.record p with queued := true }).setQueue (n.queue ++ [p])

/-- The pair's latch is set and U goes up by one, staying at 255 (R159, steps 1 and 2). -/
def NoticeUnit.count (n : NoticeUnit) (p : Pair) : NoticeUnit :=
  n.setRecord p
    { n.record p with latch := true, unreported := min ((n.record p).unreported + 1) Config.byteLimit }

/-- Whether an occurrence of the pair would make an entry: mask off, not queued, room (R159, step 3). -/
def NoticeUnit.makesEntry (n : NoticeUnit) (p : Pair) : Bool :=
  !(n.record p).mask && !(n.record p).queued && n.hasRoom

/-- An occurrence of a pair (R159). -/
def NoticeUnit.occurrence (n : NoticeUnit) (p : Pair) : NoticeUnit :=
  if n.makesEntry p then (n.count p).enqueue p else n.count p

/-- The occurrences a claim reported, from the lowest scan position to the highest, a pair reported more than
once standing as often (R161). -/
def inScanOrder (raised : List Pair) : List Pair := scanOrder.flatMap fun p => raised.filter (· = p)

/-- The Notice Unit takes the occurrences of one claim (R161). -/
def NoticeUnit.takeRaised (n : NoticeUnit) : NoticeUnit :=
  (inScanOrder n.raised).foldl NoticeUnit.occurrence { n with raised := [] }

/-- Whether the pair waits for an entry: mask off, U above 0, not queued (R167, R171). -/
def NoticeUnit.waiting (n : NoticeUnit) (p : Pair) : Bool :=
  !(n.record p).mask && decide (0 < (n.record p).unreported) && !(n.record p).queued

/-- One visit of the refill scan, and the test of MASK off: a waiting pair is queued while there is room
(R167, R171). -/
def NoticeUnit.visit (n : NoticeUnit) (p : Pair) : NoticeUnit :=
  if n.waiting p && n.hasRoom then n.enqueue p else n

/-- The refill scan, from position 0 to position 26 (R167). -/
def NoticeUnit.refill (n : NoticeUnit) : NoticeUnit := scanOrder.foldl NoticeUnit.visit n

/-- One delivered pair is cleared; `keepsLatch` says that it is an ARRIVED pair whose circuit still holds cells
(R166). -/
def NoticeUnit.clearDelivered (n : NoticeUnit) (keepsLatch : Bool) (p : Pair) : NoticeUnit :=
  n.setRecord p
    { n.record p with unreported := 0, queued := false, latch := keepsLatch && (n.record p).latch }

/-- What DISMISS does to a pair before the scan: the latch clears, U becomes 0, and its entry leaves the queue
wherever it stands (R170, steps 2 and 3). -/
def NoticeUnit.forget (n : NoticeUnit) (p : Pair) : NoticeUnit :=
  (n.setRecord p { n.record p with unreported := 0, queued := false, latch := false }).setQueue
    (n.queue.filter fun q => !decide (q = p))

/-- A circuit's ARRIVED latch clears when its receive queue has become empty (R169). -/
def NoticeUnit.receiveQueueEmpty (n : NoticeUnit) (c : CircuitId) : NoticeUnit :=
  n.setRecord (.arrived c) { n.record (.arrived c) with latch := false }

/-- The mask of a pair takes a setting (R171). -/
def NoticeUnit.setMask (n : NoticeUnit) (p : Pair) (on : Bool) : NoticeUnit :=
  n.setRecord p { n.record p with mask := on }

/-- Whether notices are pending, as a NAP request asks (R172). -/
def NoticeUnit.pendingNotices (n : NoticeUnit) : Bool :=
  !n.queue.isEmpty || scanOrder.any fun p => !(n.record p).mask && decide (0 < (n.record p).unreported)

/-- The latch summary as a number: bit p is the latch of the pair at scan position p (R164, section 10.3). -/
def NoticeUnit.latchSummary (n : NoticeUnit) : Nat :=
  (scanOrder.map fun p => if (n.record p).latch then 2 ^ scanPosition p else 0).sum

end Sys2Proof.Machine
end

