-- ==== Sys2Proof/Machine/Flags.lean ====
section
/-!
DEFINITION. The tests the blocks make on the state: current and live calls, matching, stale and held words,
room, credit, the nap test.
-/

namespace Sys2Proof.Machine

/-- The context of circuit `c` (R1). -/
def State.ctx (s : State) (c : CircuitId) : Context := s.circuits.get c

/-- The cells of circuit `c` (R51). -/
def State.cells (s : State) (c : CircuitId) : Cells := s.pool.cells.get c

/-- The slots of circuit `c` (R99). -/
def State.slots (s : State) (c : CircuitId) : Slots := s.transmit.slots.get c

/-! ## Calls -/

/-- The states in which a circuit has a current call: all but IDLE and BARRED (R5). -/
def CircuitState.hasCurrentCall : CircuitState → Bool
  | .idle | .barred => false
  | .dialing | .ringing | .connected | .quieting | .quiet | .waking | .releasing | .failed => true

/-- The states of a live call (R2, section 1.2). -/
def CircuitState.isLive : CircuitState → Bool
  | .dialing | .connected | .quieting | .quiet | .waking | .releasing => true
  | .idle | .ringing | .barred | .failed => false

/-- The states the nap test admits (R144). -/
def CircuitState.mayNap : CircuitState → Bool
  | .idle | .barred | .quiet => true
  | .dialing | .ringing | .connected | .quieting | .waking | .releasing | .failed => false

/-- Whether a word with call number `k` matches the circuit's current call (R5). -/
def Context.isCurrent (x : Context) (k : Byte) : Bool := x.state.hasCurrentCall && x.callNumber == k

/-- The credit of a circuit, (L − S) mod 256 (R69). -/
def Context.credit (x : Context) : Byte := x.creditLimit - x.sentCount

/-! ## Slots -/

/-- Whether the word in a REQUEST slot is a stale HANG: a HANG whose call number is not that of a current call
(R99). -/
def RequestSlot.isStale (w : RequestSlot) (x : Context) : Bool :=
  w.word == .hang && !x.isCurrent w.callNumber

/-- Whether a HANG for call `k` is unsent in the REQUEST slot or its overflow (R7). -/
def Slots.hangWaits (l : Slots) (k : Byte) : Bool :=
  (match l.request with
   | some w => w.word == .hang && w.callNumber == k
   | none => false)
  || l.overflow == some k

/-- Whether the REQUEST slot holds an unsent DIAL (R11, R22). -/
def Slots.holdsDial (l : Slots) : Bool :=
  match l.request with
  | some ⟨.dial _, _, _, _⟩ => true
  | _ => false

/-- Whether the REQUEST slot holds an unsent WAKE of call `k` (R36, R104). -/
def Slots.holdsWake (l : Slots) (k : Byte) : Bool :=
  match l.request with
  | some w => w.word == .wake && w.callNumber == k
  | none => false

/-- Whether the REQUEST slot holds the unsent HANG of call `k` (R26). -/
def Slots.holdsHang (l : Slots) (k : Byte) : Bool :=
  match l.request with
  | some w => w.word == .hang && w.callNumber == k
  | none => false

/-- Whether the REQUEST slot holds an unsent QUIET-ASK (R39). -/
def Slots.holdsQuietAsk (l : Slots) : Bool :=
  match l.request with
  | some w => w.word == .quietAsk
  | none => false

/-- Whether a release is held for the rouse (R44, R45, R49). -/
def Slots.releaseHeld (l : Slots) : Bool :=
  match l.request with
  | some w => w.word == .hang && w.heldForRouse
  | none => false

/-- Whether any word is pending in a circuit's slots or overflow, held or not (R104). -/
def Slots.isPending (l : Slots) : Bool :=
  l.request.isSome || l.overflow.isSome || l.answer.isSome || l.credit.isSome

/-- Whether a word in a REQUEST slot may be sent: no hold is set (R103). -/
def RequestSlot.isFree (w : RequestSlot) : Bool := !w.heldForDraining && !w.heldForRouse

/-! ## The trunk -/

/-- A live trunk: UP, RETUNE or NAP-ASKING (00_scope.md section 6). -/
def TrunkState.isLive : TrunkState → Bool
  | .up | .retune | .napAsking => true
  | .down | .training | .nap | .rousing | .closing | .fault => false

/-- A napping trunk: NAP or ROUSING (00_scope.md section 6). -/
def TrunkState.isNapping : TrunkState → Bool
  | .nap | .rousing => true
  | .down | .training | .up | .retune | .napAsking | .closing | .fault => false

/-! ## The Retry Queue -/

/-- Whether the Retry Queue has room (R74). -/
def RetryUnit.hasRoom (r : RetryUnit) : Bool := decide (r.entries.length < Config.retryCapacity)

/-- Whether an entry holds a pool cell (R74). -/
def RetryEntry.isData (e : RetryEntry) : Bool :=
  match e.content with
  | .data _ => true
  | .control .. => false

/-- The number of pool cells that entries hold (R51, R59). -/
def dataCells (entries : List RetryEntry) : Nat := (entries.filter RetryEntry.isData).length

/-! ## The nap test -/

/-- Whether every circuit is IDLE, BARRED or QUIET (R144, part 1). -/
def State.circuitsMayNap (s : State) : Bool := circuitIds.all fun c => (s.ctx c).state.mayNap

/-- Whether any per-circuit word is pending (R104). -/
def State.wordPending (s : State) : Bool := circuitIds.any fun c => (s.slots c).isPending

/-- The nap test (R144). -/
def State.napTest (s : State) : Bool := s.circuitsMayNap && !s.wordPending && s.retry.entries.isEmpty

/-- Whether the part runs: the RESET pin is high (R188). -/
def State.isRunning (s : State) : Bool := s.power == .running

end Sys2Proof.Machine
end

