-- ==== Sys2Proof/Machine/Ops.lean ====
section
/-!
DEFINITION. The shared operations of the blocks on the state: occurrences, the Cell Pool's moves, the control
slots, a change of a circuit's state, close-down, acknowledgements, first transmissions.
-/

namespace Sys2Proof.Machine

/-! ## Fields of one circuit -/

/-- The state with circuit `c`'s context replaced. -/
def State.setCtx (s : State) (c : CircuitId) (x : Context) : State :=
  { s with circuits := s.circuits.set c x }

/-- The state with circuit `c`'s cells replaced. -/
def State.setCells (s : State) (c : CircuitId) (x : Cells) : State :=
  { s with pool := { s.pool with cells := s.pool.cells.set c x } }

/-- The state with circuit `c`'s slots replaced. -/
def State.setSlots (s : State) (c : CircuitId) (x : Slots) : State :=
  { s with transmit := { s.transmit with slots := s.transmit.slots.set c x } }

/-- A counter that stops at its limit (R53, R98, R142, R177). -/
def addToCounter (n k : Nat) : Nat := min (n + k) Config.counterLimit

/-! ## Occurrences (R159, R161) -/

/-- A block reports one occurrence of a pair; the Notice Unit takes it with the others of the claim (R161). -/
def State.report (s : State) (p : Pair) : State :=
  { s with notices := { s.notices with raised := s.notices.raised ++ [p] } }

/-- The end of a claim: the Notice Unit takes its occurrences in scan order (R161). -/
def State.closeClaim (s : State) : State := { s with notices := s.notices.takeRaised }

/-! ## The Cell Pool -/

/-- A freeing event: every circuit whose refused marker is set has it cleared and gets one Cn:ROOM
(R52, R72). -/
def State.freeingEvent (s : State) : State :=
  { s with
    circuits := s.circuits.map fun x => { x with refusedMarker := false }
    notices :=
      { s.notices with
        raised :=
          s.notices.raised ++ (circuitIds.filter fun c => (s.ctx c).refusedMarker).map Pair.room } }

/-- The return of `n` cells to the free pool, which is one freeing event where it returns any (R52). -/
def State.releaseCells (s : State) (n : Nat) : State :=
  if n = 0 then s else State.freeingEvent { s with pool := { s.pool with free := s.pool.free + n } }

/-- The head cell of circuit `c`'s send queue has left: where the length is now at or below half the send depth
and the refused marker is set, it clears and one Cn:ROOM is raised (R72). -/
def State.sendQueueShortened (s : State) (c : CircuitId) : State :=
  if (s.ctx c).refusedMarker && decide ((s.cells c).sendQueue.length ≤ (s.ctx c).sendDepth / 2) then
    (s.setCtx c { s.ctx c with refusedMarker := false }).report (.room c)
  else s

/-- The reservation of `window` cells for circuit `c` out of the free ones (R54). -/
def State.reserve (s : State) (c : CircuitId) (window : Nat) : State :=
  State.setCells { s with pool := { s.pool with free := s.pool.free - window } } c
    { s.cells c with reserved := (s.cells c).reserved + window }

/-- Circuit `c`'s send queue is discarded to the lost-cells counter and its reservation returned; the cells of
both go to the free pool, and the receive queue stays (R55, R60). -/
def State.returnCallCells (s : State) (c : CircuitId) : State :=
  let old := s.cells c
  let s := s.setCells c { old with sendQueue := [], reserved := 0 }
  let s := { s with pool := { s.pool with lostCells := addToCounter s.pool.lostCells old.sendQueue.length } }
  s.releaseCells (old.sendQueue.length + old.reserved)

/-! ## The control slots (R99 to R104) -/

/-- A HANG, unheld (R7, R101). -/
def unheldHang (k : Byte) : RequestSlot := ⟨.hang, k, false, false⟩

/-- A word of the current call takes a REQUEST slot: an unsent stale HANG moves to the overflow, another unsent
word is withdrawn (R100). -/
def Slots.placeRequest (l : Slots) (x : Context) (w : RequestSlot) : Slots :=
  match l.request with
  | some old =>
    if old.isStale x then { l with request := some w, overflow := some old.callNumber }
    else { l with request := some w }
  | none => { l with request := some w }

/-- A stale HANG for call `k` is placed, unless a HANG for `k` already waits (R7, R100). -/
def Slots.placeStaleHang (l : Slots) (k : Byte) : Slots :=
  if l.hangWaits k then l
  else
    match l.request with
    | none => { l with request := some (unheldHang k) }
    | some _ => { l with overflow := some k }

/-- The overflow's HANG moves into an empty REQUEST slot (R101). -/
def Slots.moveOverflow (l : Slots) : Slots :=
  match l.request, l.overflow with
  | none, some k => { l with request := some (unheldHang k), overflow := none }
  | _, _ => l

/-- The send queue has become empty: the draining hold of the REQUEST word clears (R103). -/
def Slots.clearDraining (l : Slots) : Slots :=
  { l with request := l.request.map fun w => { w with heldForDraining := false } }

/-- The trunk has left NAP or ROUSING: the rouse hold of the REQUEST word clears (R47, R103). -/
def Slots.clearRouse (l : Slots) : Slots :=
  { l with request := l.request.map fun w => { w with heldForRouse := false } }

/-- Circuit `c` places a word of its current call in its REQUEST slot with the holds its rule gives (R100,
R103). -/
def State.placeRequest (s : State) (c : CircuitId) (w : RequestWord) (drain rouse : Bool) : State :=
  s.setSlots c ((s.slots c).placeRequest (s.ctx c) ⟨w, (s.ctx c).callNumber, drain, rouse⟩)

/-- A word takes circuit `c`'s ANSWER slot, in the place of any unsent word there (R6, R102). -/
def State.placeAnswer (s : State) (c : CircuitId) (w : AnswerWord) (k : Byte) : State :=
  s.setSlots c { s.slots c with answer := some ⟨w, k⟩ }

/-- CREDIT with the present G takes circuit `c`'s CREDIT slot (R66, R102). -/
def State.placeCredit (s : State) (c : CircuitId) : State :=
  s.setSlots c { s.slots c with credit := some ⟨(s.ctx c).callNumber, (s.ctx c).granted⟩ }

/-! ## A circuit's state (R4, R8) -/

/-- Circuit `c` enters a state with a cause: the cause is recorded and one Cn:STATE reported (R4). -/
def State.enter (s : State) (c : CircuitId) (st : CircuitState) (cause : CircuitCause) : State :=
  (s.setCtx c { s.ctx c with state := st, lastCause := some cause }).report (.state c)

/-- The context fields that a close-down clears (R8, steps 1, 5 and 6). -/
def Context.closed (x : Context) (keepRole : Bool) : Context :=
  { x with
    timer := .stopped, quietMarker := false, askSinceRefusal := false, holdoff := none, window := none
    role := if keepRole then x.role else none }

/-- Closing down circuit `c`'s call (R8); the role stays only at FAILED entry (R29). -/
def State.closeDown (s : State) (c : CircuitId) (keepRole : Bool) : State :=
  let s := s.returnCallCells c
  let s := s.setSlots c .empty
  s.setCtx c ((s.ctx c).closed keepRole)

/-! ## Acknowledgements at the sender (R79 to R81) -/

/-- The place of the entry with sequence number `n` (R79). -/
def RetryUnit.find (r : RetryUnit) (n : Byte) : Option Nat := r.entries.findIdx? fun e => e.sequence == n

/-- The Retry Unit without its first `k` entries: a replay pointer on a removed entry moves to the new head, or
becomes absent with the queue empty (R79). -/
def RetryUnit.removeFirst (r : RetryUnit) (k : Nat) : RetryUnit :=
  { r with
    entries := r.entries.drop k
    replayPointer := if (r.entries.drop k).isEmpty then none else r.replayPointer.map (· - k) }

/-- Removal of the first `k` entries by an ACK or NAK: their cells return to the free pool as one freeing event,
and the removal is progress (R79, R81). -/
def State.acknowledge (s : State) (k : Nat) : State :=
  let freed := dataCells (s.retry.entries.take k)
  let r := s.retry.removeFirst k
  let timer :=
    if r.entries.isEmpty || !(s.link.state == .up) then none else some s.port.parameters.ackTimeout
  State.releaseCells
    { s with
      retry := { r with replayCounter := 0, replayTimer := timer }
      link := { s.link with retuneCounter := 0 } }
    freed

/-- A stray ACK or NAK is counted (R79, R80). -/
def State.countStray (s : State) : State :=
  { s with retry := { s.retry with straySignals := addToCounter s.retry.straySignals 1 } }

/-- A replay begins: the pointer is set to the head, the replays counter goes up, and one TRUNK:ERROR is reported
(R80, R84). -/
def State.beginReplay (s : State) : State :=
  State.report
    { s with
      retry :=
        { s.retry with
          replayPointer := if s.retry.entries.isEmpty then none else some 0
          replays := addToCounter s.retry.replays 1 } }
    .trunkError

/-! ## Numbering (R76, R77) -/

/-- A cell sent for the first time is numbered and its entry made; the replay timer starts where the queue was
empty and the trunk is UP (R76). -/
def State.number (s : State) (c : CircuitId) (content : EntryContent) : State :=
  { s with
    retry :=
      { s.retry with
        entries := s.retry.entries ++ [⟨s.retry.nextSequence, c, content, 1⟩]
        nextSequence := s.retry.nextSequence + 1
        replayTimer :=
          if s.retry.entries.isEmpty && s.link.state == .up then some s.port.parameters.ackTimeout
          else s.retry.replayTimer } }

/-- The frame built from an entry (R76, R108). -/
def RetryEntry.frame (e : RetryEntry) : TrunkFrame :=
  match e.content with
  | .data payload => .data e.sequence e.circuit payload
  | .control word k => .control e.sequence e.circuit word k

/-- The Retry Unit after it has resent the entry at place `i`: its transmissions go up, staying at 255, and the
pointer moves on or becomes absent at the tail (R77). -/
def RetryUnit.resent (r : RetryUnit) (i : Nat) : RetryUnit :=
  { r with
    entries := r.entries.modify i fun e => { e with transmissions := min (e.transmissions + 1) Config.byteLimit }
    replayPointer := if i + 1 < r.entries.length then some (i + 1) else none }

end Sys2Proof.Machine
end

