-- ==== Sys2Proof/Machine/Operands.lean ====
section
/-!
DEFINITION. Operands of requests and fields of replies: the codes of section 10.5, ranges, parameter numbers,
notice pairs by their codes, and what a taken request leaves behind.
-/

namespace Sys2Proof.Machine

/-! ## Codes of reply fields (section 10.5) -/

/-- An enumerated field that is absent is sent as FFh (R193). -/
def absentCode : Byte := 0xFF

def circuitStateCode : CircuitState → Byte
  | .idle => 0 | .dialing => 1 | .ringing => 2 | .connected => 3 | .quieting => 4 | .quiet => 5 | .waking => 6
  | .releasing => 7 | .barred => 8 | .failed => 9

def circuitCauseCode : CircuitCause → Byte
  | .host => 0 | .peer => 1 | .crossed => 2 | .superseded => 3 | .timeout => 4 | .noAnswer => 5 | .refused => 6
  | .barred => 7 | .held => 8 | .overrun => 9 | .quietRefused => 10 | .trunkLost => 11 | .trunkClosed => 12

def trunkStateCode : TrunkState → Byte
  | .down => 0 | .training => 1 | .up => 2 | .retune => 3 | .napAsking => 4 | .nap => 5 | .rousing => 6
  | .closing => 7 | .fault => 8

def trunkCauseCode : TrunkCause → Byte
  | .host => 0 | .peer => 1 | .noPeer => 2 | .sideClash => 3 | .version => 4 | .replayLimit => 5
  | .errorThreshold => 6 | .retuneLimit => 7 | .peerFault => 8 | .peerRestart => 9 | .napRefused => 10
  | .napTimeout => 11 | .rouseTimeout => 12 | .closeTimeout => 13

def roleCode : Role → Byte
  | .caller => 0 | .callee => 1

def sideCode : Side → Byte
  | .a => 0 | .b => 1

def circuitTimerCode : CircuitTimer → Byte
  | .stopped => 0 | .dial _ => 1 | .ring _ => 2

def stateTimerCode : StateTimerKind → Byte
  | .train => 1 | .retune => 2 | .close => 3 | .faultHold => 4 | .napAsk => 5 | .rouse => 6

def startCauseCode : StartCause → Byte
  | .power => 0 | .pin => 1 | .request => 2

def lineSpeedCode : LineSpeed → Byte
  | .baud115200 => 0 | .baud460800 => 1 | .baud921600 => 2 | .baud3000000 => 3

/-- A field that may be absent, by its code (R193). -/
def codeOr {α : Type} (code : α → Byte) (x : Option α) : Byte :=
  match x with
  | some a => code a
  | none => absentCode

/-- The side the SIDE strap selects (R195). -/
def sideOfStraps (p : Straps) : Side := if p.side then .b else .a

/-- The host line speed the BAUD straps select (R195). -/
def speedOfStraps (p : Straps) : LineSpeed :=
  match p.baud1, p.baud0 with
  | false, false => .baud115200
  | false, true => .baud460800
  | true, false => .baud921600
  | true, true => .baud3000000

/-! ## Ranges (R9, R31, R34) -/

/-- Whether a byte is a window, 2 to 32. -/
def isWindow (w : Byte) : Bool := decide (Config.windowMin ≤ w.toNat ∧ w.toNat ≤ Config.windowMax)

/-- Whether a byte is a send depth, 1 to 32. -/
def isDepth (d : Byte) : Bool := decide (Config.depthMin ≤ d.toNat ∧ d.toNat ≤ Config.depthMax)

/-- A setting: 0 for off, 1 for on (R193). -/
def settingOf (b : Byte) : Option Bool := if b = 0 then some false else if b = 1 then some true else none

/-- The cause a REJECT's reason code gives; none out of range (R13, R34, section 10.5). -/
def rejectCauseOf (reason : Byte) : Option CircuitCause :=
  match reason.toNat with
  | 0 => some .refused
  | 1 => some .noAnswer
  | 2 => some .barred
  | 3 => some .held
  | _ => none

/-- The reason codes the part sends (section 10.5). -/
def reasonRefused : Byte := 0
def reasonNoAnswer : Byte := 1
def reasonBarred : Byte := 2
def reasonHeld : Byte := 3

/-! ## Notice pairs by their codes (R157, section 10.5) -/

/-- The pair a source and a kind code name; none for a combination outside the table (R157). -/
def pairOf (source kind : Byte) : Option Pair :=
  match source.toNat, kind.toNat with
  | 0, 0 => some .trunkState
  | 0, 1 => some .trunkError
  | 1, 1 => some .portError
  | n + 2, k =>
    if h : n < 8 then
      match k with
      | 0 => some (.state ⟨n, h⟩)
      | 2 => some (.arrived ⟨n, h⟩)
      | 3 => some (.room ⟨n, h⟩)
      | _ => none
    else none
  | _, _ => none

/-- A pair's source code (section 10.5). -/
def sourceCode : Pair → Byte
  | .trunkState | .trunkError => 0
  | .portError => 1
  | .state c | .arrived c | .room c => count8 (c.val + 2)

/-- A pair's kind code (section 10.5). -/
def kindCode : Pair → Byte
  | .trunkState | .state _ => 0
  | .trunkError | .portError => 1
  | .arrived _ => 2
  | .room _ => 3

/-! ## Parameters (R182) -/

/-- The parameter a number names, 1 to 16 (R182). -/
def paramOf (n : Byte) : Option Param :=
  match n.toNat with
  | 1 => some .ackTimeout | 2 => some .replayLimit | 3 => some .errorThreshold | 4 => some .errorWindow
  | 5 => some .retuneTimeout | 6 => some .retuneLimit | 7 => some .faultHold | 8 => some .trainTimeout
  | 9 => some .helloInterval | 10 => some .dialTimeout | 11 => some .ringTimeout | 12 => some .quietHoldoff
  | 13 => some .napAskTimeout | 14 => some .rouseTimeout | 15 => some .closeTimeout | 16 => some .autoFollow
  | _ => none

/-- A parameter's smallest and greatest value (R182). -/
def paramRange : Param → Nat × Nat
  | .ackTimeout => (1, 50) | .replayLimit => (1, 15) | .errorThreshold => (1, 255) | .errorWindow => (10, 1000)
  | .retuneTimeout => (5, 200) | .retuneLimit => (1, 7) | .faultHold => (20, 1000) | .trainTimeout => (10, 5000)
  | .helloInterval => (1, 10) | .dialTimeout => (10, 10000) | .ringTimeout => (10, 10000)
  | .quietHoldoff => (1, 100) | .napAskTimeout => (1, 100) | .rouseTimeout => (1, 100)
  | .closeTimeout => (1, 100) | .autoFollow => (0, 1)

/-- Whether a value is in a parameter's range (R184). -/
def inRange (p : Param) (v : Nat) : Bool := decide ((paramRange p).1 ≤ v ∧ v ≤ (paramRange p).2)

/-- A parameter's value. -/
def ParameterTable.get (t : ParameterTable) : Param → Nat
  | .ackTimeout => t.ackTimeout | .replayLimit => t.replayLimit | .errorThreshold => t.errorThreshold
  | .errorWindow => t.errorWindow | .retuneTimeout => t.retuneTimeout | .retuneLimit => t.retuneLimit
  | .faultHold => t.faultHold | .trainTimeout => t.trainTimeout | .helloInterval => t.helloInterval
  | .dialTimeout => t.dialTimeout | .ringTimeout => t.ringTimeout | .quietHoldoff => t.quietHoldoff
  | .napAskTimeout => t.napAskTimeout | .rouseTimeout => t.rouseTimeout | .closeTimeout => t.closeTimeout
  | .autoFollow => t.autoFollow

/-- The table with one parameter written (R184). -/
def ParameterTable.set (t : ParameterTable) (p : Param) (v : Nat) : ParameterTable :=
  match p with
  | .ackTimeout => { t with ackTimeout := v }
  | .replayLimit => { t with replayLimit := v }
  | .errorThreshold => { t with errorThreshold := v }
  | .errorWindow => { t with errorWindow := v }
  | .retuneTimeout => { t with retuneTimeout := v }
  | .retuneLimit => { t with retuneLimit := v }
  | .faultHold => { t with faultHold := v }
  | .trainTimeout => { t with trainTimeout := v }
  | .helloInterval => { t with helloInterval := v }
  | .dialTimeout => { t with dialTimeout := v }
  | .ringTimeout => { t with ringTimeout := v }
  | .quietHoldoff => { t with quietHoldoff := v }
  | .napAskTimeout => { t with napAskTimeout := v }
  | .rouseTimeout => { t with rouseTimeout := v }
  | .closeTimeout => { t with closeTimeout := v }
  | .autoFollow => { t with autoFollow := v }

/-! ## What a taken request leaves (R181) -/

/-- A taken request: the state after it, its reply's status and its reply's body. -/
structure Taken where
  state : State
  status : Status
  body : List Byte
  deriving DecidableEq, Repr

/-- A refusal: its body is empty and it changes nothing (R181). -/
def State.refuse (s : State) (st : Status) : Taken := ⟨s, st, []⟩

/-- A taken request whose reply has an empty body. -/
def State.taken (s : State) : Taken := ⟨s, .ok, []⟩

/-- A taken request with results in its reply's body. -/
def State.answering (s : State) (body : List Byte) : Taken := ⟨s, .ok, body⟩

/-- The first check of every request that names a circuit (R1). -/
def withCircuit (b : Byte) (s : State) (f : CircuitId → Taken) : Taken :=
  match circuitOf b with
  | some c => f c
  | none => s.refuse .badCircuit

end Sys2Proof.Machine
end

