-- ==== Sys2Proof/Machine/Trunk.lean ====
section
/-!
DEFINITION. The Link Controller's changes of trunk state and the trunk loss event (chapters Trunk States, Nap
and Rouse).
-/

namespace Sys2Proof.Machine

/-! ## The LINK slot and the timers (R106, R107, R118, R119) -/

/-- A standing signal is placed: it is due, and the repeat timer starts afresh (R106, R118). -/
def State.stand (s : State) (x : LinkSignal) : State :=
  { s with
    transmit := { s.transmit with linkSlot := { s.transmit.linkSlot with standing := some x, due := true } }
    link := { s.link with repeatTimer := some s.port.parameters.helloInterval } }

/-- The standing signal becomes absent: the due mark clears and the repeat timer stops (R106, R118). -/
def State.noStanding (s : State) : State :=
  { s with
    transmit := { s.transmit with linkSlot := { s.transmit.linkSlot with standing := none, due := false } }
    link := { s.link with repeatTimer := none } }

/-- An answer signal is placed, in the place of an unsent one (R107). -/
def State.answerLink (s : State) (x : LinkSignal) : State :=
  { s with transmit := { s.transmit with linkSlot := { s.transmit.linkSlot with answer := some x } } }

/-- The state timer starts (R119, R143). -/
def State.startTimer (s : State) (k : StateTimerKind) (ms : Nat) : State :=
  { s with link := { s.link with stateTimer := some ⟨k, ms⟩ } }

/-! ## A change of trunk state (R116, R117) -/

/-- Every change of trunk state: the cause is recorded, the marks of training, retune and nap, the peer calling
mark and the hold elapsed mark clear, the state timer stops, the standing signal becomes absent, the replay
timer stops, and one TRUNK:STATE is reported (R83, R116 to R119, R121, R143; log 10). -/
def State.changeTrunk (s : State) (st : TrunkState) (cause : Option TrunkCause) : State :=
  let s := s.noStanding
  State.report
    { s with
      link :=
        { s.link with
          state := st, cause := cause, peerHeard := false, peerReady := false, readySent := false
          tuneHeard := false, tuneOkReceived := false, tuneOkSent := false, peerCalling := false
          holdElapsed := false, napGranted := false, stateTimer := none }
      retry := { s.retry with replayTimer := none } }
    .trunkState

/-- Entry to UP: the echo mark clears, and the replay timer starts where the Retry Queue is not empty
(R83, R126). -/
def State.enterUp (s : State) (cause : Option TrunkCause) : State :=
  let s := s.changeTrunk .up cause
  { s with
    link := { s.link with echo := false }
    retry :=
      { s.retry with
        replayTimer := if s.retry.entries.isEmpty then none else some s.port.parameters.ackTimeout } }

/-- Entry to UP from TRAINING: the retune counter becomes 0 and both sequences start at 0 (R86, R97, R124). -/
def State.enterUpFromTraining (s : State) : State :=
  let s := s.enterUp s.link.cause
  { s with
    link := { s.link with retuneCounter := 0 }
    retry := { s.retry with nextSequence := 0, replayCounter := 0 }
    checker :=
      { s.checker with
        expected := 0, nakOutstanding := false, errorCounter := 0, thresholdReported := false
        errorWindow := some s.port.parameters.errorWindow } }

/-- Training is over at the moment all three marks are set (R124). -/
def State.finishTraining (s : State) : State :=
  if s.link.peerHeard && s.link.peerReady && s.link.readySent then s.enterUpFromTraining else s

/-- The return from RETUNE to UP: the replay pointer is set to the head and the replay counter to 0
(R85, R130). -/
def State.returnFromRetune (s : State) : State :=
  let s := s.enterUp s.link.cause
  { s with
    retry :=
      { s.retry with
        replayPointer := if s.retry.entries.isEmpty then none else some 0
        replayCounter := 0 } }

/-- Entry to TRAINING; `heard` says that it follows a HELLO (R121, R122). -/
def State.enterTraining (s : State) (cause : TrunkCause) (heard : Bool) : State :=
  let s := s.changeTrunk .training (some cause)
  let s := { s with link := { s.link with peerHeard := heard } }
  let s :=
    s.stand
      (if heard then .ready
       else .hello (sideCode s.port.side) Config.trunkVersion Config.circuitCount Config.helloCapacity)
  s.startTimer .train s.port.parameters.trainTimeout

/-- Entry to DOWN (R125, R133 to R135). -/
def State.enterDown (s : State) (cause : TrunkCause) : State := s.changeTrunk .down (some cause)

/-! ## Trunk loss (R32, R73, R86, R97, R115, R139) -/

/-- Whether trunk loss ends this circuit's call or offer: any state but IDLE and BARRED (R32). -/
def CircuitState.endsAtLoss (st : CircuitState) : Bool := st.hasCurrentCall

/-- A context at trunk loss (R32). -/
def Context.lost (x : Context) (cause : CircuitCause) : Context :=
  if x.state.endsAtLoss then { x.closed false with state := .idle, lastCause := some cause } else x

/-- A circuit's cells at trunk loss: the send queue is discarded and the reservation returned for every circuit
that ends; the receive queue is kept (R73). -/
def Cells.lost (y : Cells) (x : Context) : Cells :=
  if x.state.endsAtLoss then { y with sendQueue := [], reserved := 0 } else y

/-- The cells circuit `c` gives back at trunk loss, and those of them that were queued to be sent (R73). -/
def State.cellsLost (s : State) (c : CircuitId) : Nat :=
  if (s.ctx c).state.endsAtLoss then (s.cells c).sendQueue.length + (s.cells c).reserved else 0

def State.sendsLost (s : State) (c : CircuitId) : Nat :=
  if (s.ctx c).state.endsAtLoss then (s.cells c).sendQueue.length else 0

/-- The Circuit Controller's and the Buffer Manager's part of trunk loss (R32, R73). -/
def State.loseCircuits (s : State) (cause : CircuitCause) : State :=
  { s with
    circuits := .ofFn fun c => (s.ctx c).lost cause
    pool :=
      { s.pool with
        cells := .ofFn fun c => (s.cells c).lost (s.ctx c)
        lostCells := addToCounter s.pool.lostCells (circuitSum s.sendsLost) }
    notices :=
      { s.notices with
        raised :=
          s.notices.raised ++
            (circuitIds.filter fun c => (s.ctx c).state.endsAtLoss).map Pair.state } }

/-- The trunk loss event, with the cause each circuit that ends records: every block takes its part, and the
cells returned are one freeing event (R139). -/
def State.trunkLoss (s : State) (cause : CircuitCause) : State :=
  let freed := circuitSum s.cellsLost + dataCells s.retry.entries
  let s := s.loseCircuits cause
  let s :=
    { s with
      retry := { s.retry with entries := [], replayPointer := none, replayTimer := none, replayCounter := 0 }
      checker :=
        { s.checker with nakOutstanding := false, errorWindow := none, errorCounter := 0, thresholdReported := false }
      transmit := { s.transmit with slots := .all .empty, ackNak := none, linkSlot := .empty }
      link :=
        { s.link with
          retuneCounter := 0, tuneHeard := false, tuneOkReceived := false, tuneOkSent := false, echo := false
          repeatTimer := none } }
  s.releaseCells freed

/-! ## Fault, close, nap, rouse, retune -/

/-- Entry to FAULT: trunk loss from every state but DOWN and FAULT, FAULT standing with its cause, the hold, the
faults counter (R136). -/
def State.enterFault (s : State) (cause : TrunkCause) : State :=
  let s := if s.link.state = .down ∨ s.link.state = .fault then s else s.trunkLoss .trunkLost
  let s := s.changeTrunk .fault (some cause)
  let s := s.stand (.fault (trunkCauseCode cause))
  let s := s.startTimer .faultHold s.port.parameters.faultHold
  { s with link := { s.link with faults := addToCounter s.link.faults 1 } }

/-- Entry to CLOSING: trunk loss with the orderly-close cause, DOWN standing, the close timer (R134). -/
def State.enterClosing (s : State) : State :=
  let s := s.trunkLoss .trunkClosed
  let s := s.changeTrunk .closing (some .host)
  let s := s.stand .down
  s.startTimer .close s.port.parameters.closeTimeout

/-- The peer's DOWN closes a live or napping trunk: trunk loss with the orderly-close cause, DOWN-OK as the
answer, DOWN with cause PEER (R135). -/
def State.closedByPeer (s : State) : State :=
  let s := s.trunkLoss .trunkClosed
  let s := s.answerLink .downOk
  s.enterDown .peer

/-- Entry to NAP-ASKING (R145). -/
def State.enterNapAsking (s : State) : State :=
  let s := s.changeTrunk .napAsking (some .host)
  let s := s.stand .napAsk
  s.startTimer .napAsk s.port.parameters.napAskTimeout

/-- Entry to NAP with a cause (R150). -/
def State.enterNap (s : State) (cause : Option TrunkCause) : State := s.changeTrunk .nap cause

/-- The start of a rouse (R152). -/
def State.startRouse (s : State) : State :=
  let s := s.changeTrunk .rousing (some .host)
  let s := s.stand .rouse
  s.startTimer .rouse s.port.parameters.rouseTimeout

/-- Whether a circuit waits for the trunk to leave NAP or ROUSING: it is WAKING, or QUIET with a release held for
the rouse (R47). -/
def Context.awaitsRouse (x : Context) (l : Slots) : Bool :=
  x.state == .waking || (x.state == .quiet && l.releaseHeld)

/-- A context after the resolution (R47). -/
def Context.resolved (x : Context) (l : Slots) : Context :=
  if x.awaitsRouse l then
    { x with state := if l.releaseHeld then .releasing else .connected, lastCause := some .host }
  else x

/-- A circuit's slots after the resolution (R47). -/
def Slots.resolved (l : Slots) (x : Context) : Slots :=
  if x.awaitsRouse l then
    if l.releaseHeld then l.clearRouse else l.placeRequest x ⟨.wake, x.callNumber, false, false⟩
  else l

/-- The Circuit Controller resolves every circuit that waits for the rouse (R47). -/
def State.resolveWaking (s : State) : State :=
  { s with
    circuits := .ofFn fun c => (s.ctx c).resolved (s.slots c)
    transmit := { s.transmit with slots := .ofFn fun c => (s.slots c).resolved (s.ctx c) }
    notices :=
      { s.notices with
        raised :=
          s.notices.raised ++
            (circuitIds.filter fun c => (s.ctx c).awaitsRouse (s.slots c)).map Pair.state } }

/-- The change from NAP or ROUSING to UP (R154). -/
def State.rouseToUp (s : State) (cause : Option TrunkCause) : State := (s.enterUp cause).resolveWaking

/-- A claim in NAP-ASKING leaves a circuit in a state that cannot nap: the ask is abandoned (R149). -/
def State.abandonNapAsk (s : State) (cause : TrunkCause) : State :=
  if s.link.state = .napAsking then s.enterUp (some cause) else s

/-- Entry to RETUNE, below the limit; `heard` says that it follows a received TUNE. From ROUSING the waking
circuits are resolved (R127, R154). -/
def State.enterRetune (s : State) (cause : TrunkCause) (heard : Bool) : State :=
  let rousing := s.link.state == .rousing
  let s := s.changeTrunk .retune (some cause)
  let s := { s with link := { s.link with tuneHeard := heard, retunes := addToCounter s.link.retunes 1 } }
  let s := s.stand (if heard then .tuneOk else .tune)
  let s := s.startTimer .retune s.port.parameters.retuneTimeout
  let s := s.report .trunkError
  if rousing then s.resolveWaking else s

/-- A retune cause is taken: the retune counter goes up, and at the limit FAULT is entered instead (R127). -/
def State.retuneCause (s : State) (cause : TrunkCause) (heard : Bool) : State :=
  let s := { s with link := { s.link with retuneCounter := s.link.retuneCounter + 1 } }
  if s.port.parameters.retuneLimit ≤ s.link.retuneCounter then s.enterFault .retuneLimit
  else s.enterRetune cause heard

/-- The Retry Unit's REPLAY-LIMIT reaches the Link Controller (R84, R140). -/
def State.replayLimitReported (s : State) : State :=
  if s.link.state = .up then s.retuneCause .replayLimit false else s

/-- The Receive Checker's ERROR-THRESHOLD reaches the Link Controller (R96, R140). -/
def State.thresholdReached (s : State) : State :=
  match s.link.state with
  | .up | .napAsking | .rousing => s.retuneCause .errorThreshold false
  | .down | .training | .retune | .nap | .closing | .fault => s

end Sys2Proof.Machine
end

