-- ==== Sys2Proof/Machine/Arbiter.lean ====
section
/-!
DEFINITION. The Transmit Arbiter (chapter Control Slots and the Transmit Arbiter): what may be sent, in which
order, and what taking a frame does.
-/

namespace Sys2Proof.Machine

/-! ## What a circuit may send -/

/-- The control word a REQUEST word is sent as. -/
def RequestWord.toControl : RequestWord → ControlWord
  | .dial w => .dial w
  | .hang => .hang
  | .quietAsk => .quietAsk
  | .wake => .wake

/-- The control word an ANSWER word is sent as. -/
def AnswerWord.toControl : AnswerWord → ControlWord
  | .answer w => .answer w
  | .reject r => .reject r
  | .hangDone => .hangDone
  | .quietOk => .quietOk
  | .quietRefuse => .quietRefuse

/-- Which of a circuit's slots a word is taken from (R112). -/
inductive SlotName where
  | answer | request | credit
  deriving DecidableEq, Repr

/-- A word that may be sent: its slot, the word and its call number. -/
structure Sendable where
  slot : SlotName
  word : ControlWord
  callNumber : Byte
  deriving DecidableEq, Repr

/-- The REQUEST word, where it carries no hold and is a HANG or not as asked (R112, places 2 and 4). -/
def Slots.freeRequest (l : Slots) (hang : Bool) : Option Sendable :=
  match l.request with
  | some w =>
    if w.isFree && (w.word == .hang) == hang then some ⟨.request, w.word.toControl, w.callNumber⟩ else none
  | none => none

/-- The word a circuit sends at its turn: ANSWER, a REQUEST word that is not a HANG, CREDIT, a HANG (R112). -/
def Slots.nextWord (l : Slots) : Option Sendable :=
  match l.answer with
  | some a => some ⟨.answer, a.word.toControl, a.callNumber⟩
  | none =>
    match l.freeRequest false with
    | some w => some w
    | none =>
      match l.credit with
      | some k => some ⟨.credit, .credit k.count, k.callNumber⟩
      | none => l.freeRequest true

/-- The slots after a word has been taken: its slot is empty, and the overflow moves into an emptied REQUEST
slot (R101, R112). -/
def Slots.without (l : Slots) : SlotName → Slots
  | .answer => { l with answer := none }
  | .credit => { l with credit := none }
  | .request => Slots.moveOverflow { l with request := none }

/-- Whether circuit `c`'s head data cell is eligible, the Retry Queue's room apart (R58). -/
def State.dataEligible (s : State) (c : CircuitId) : Bool :=
  ((s.ctx c).state == .connected || (s.ctx c).state == .releasing)
    && !(s.cells c).sendQueue.isEmpty && (s.ctx c).credit != 0

/-! ## What the trunk state allows (R110) -/

/-- Whether the ACKNAK slot may be taken (R105, R110). -/
def TrunkState.allowsAckNak : TrunkState → Bool
  | .up | .napAsking => true
  | .down | .training | .retune | .nap | .rousing | .closing | .fault => false

/-- Whether resends and first transmissions may be taken (R110). -/
def TrunkState.allowsCells : TrunkState → Bool
  | .up => true
  | .down | .training | .retune | .napAsking | .nap | .rousing | .closing | .fault => false

/-! ## The choice (R111 to R113) -/

/-- What the Arbiter can take (R111). -/
inductive Choice where
  | linkAnswer (x : LinkSignal)
  | linkStanding (x : LinkSignal)
  | ackNak (x : AckNak)
  | resend (place : Nat) (e : RetryEntry)
  | word (c : CircuitId) (w : Sendable)
  | data (c : CircuitId) (payload : Payload)
  deriving DecidableEq, Repr

/-- Order 1: the LINK slot, its answer before a due standing signal (R107, R111). -/
def LinkSlot.choice (l : LinkSlot) : Option Choice :=
  match l.answer, l.due, l.standing with
  | some x, _, _ => some (.linkAnswer x)
  | none, true, some x => some (.linkStanding x)
  | none, _, _ => none

/-- Order 3: the entry under the replay pointer (R77, R111). -/
def RetryUnit.choice (r : RetryUnit) : Option Choice :=
  match r.replayPointer with
  | some i => (r.entries[i]?).map (Choice.resend i)
  | none => none

/-- Order 4: the first circuit in turn with a word that may be sent (R112). -/
def State.wordChoice (s : State) : Option Choice :=
  (circuitsAfter s.transmit.controlPointer).findSome? fun c => (s.slots c).nextWord.map (Choice.word c)

/-- Order 5: the first circuit in turn with an eligible data cell (R113). -/
def State.dataChoice (s : State) : Option Choice :=
  (circuitsAfter s.transmit.dataPointer).findSome? fun c =>
    if s.dataEligible c then (s.cells c).sendQueue.head?.map (Choice.data c) else none

/-- Orders 4 and 5: first transmissions, which wait for an absent pointer and for room (R76, R111). -/
def State.firstChoice (s : State) : Option Choice :=
  if s.retry.replayPointer.isNone && s.retry.hasRoom then s.wordChoice.or s.dataChoice else none

/-- The frame the Arbiter would take now, none where nothing may be sent (R109 to R111). -/
def State.choice (s : State) : Option Choice :=
  let ackNak :=
    if s.link.state.allowsAckNak then s.transmit.ackNak.map Choice.ackNak else none
  let cells := if s.link.state.allowsCells then s.retry.choice.or s.firstChoice else none
  (s.transmit.linkSlot.choice.or ackNak).or cells

/-! ## Taking the frame -/

/-- The transmitter becomes busy with a frame (R108). -/
def State.send (s : State) (o : Origin) (f : TrunkFrame) : State :=
  { s with transmit := { s.transmit with wire := some ⟨o, f⟩ } }

/-- The link signal an ACKNAK slot's signal is sent as. -/
def AckNak.toSignal : AckNak → LinkSignal
  | .ack n => .ack n
  | .nak n => .nak n

/-- Circuit `c`'s send queue has become empty: the draining hold clears, and a CONNECTED circuit with its quiet
marker set becomes QUIETING (R38, R103). -/
def State.sendQueueEmptied (s : State) (c : CircuitId) : State :=
  let s := s.setSlots c (s.slots c).clearDraining
  if (s.ctx c).state = .connected ∧ (s.ctx c).quietMarker then s.enter c .quieting .host else s

/-- Circuit `c`'s control word is taken: its slot empties, it is numbered, and the control pointer moves
(R76, R112). -/
def State.takeWord (s : State) (c : CircuitId) (w : Sendable) : State :=
  let k := s.retry.nextSequence
  let s := s.setSlots c ((s.slots c).without w.slot)
  let s := s.number c (.control w.word w.callNumber)
  let s := { s with transmit := { s.transmit with controlPointer := c } }
  s.send .firstControl (.control k c w.word w.callNumber)

/-- Circuit `c`'s head data cell is taken: it leaves the send queue, S goes up by one, it is numbered, and the data
pointer moves (R58, R72, R76, R113). -/
def State.takeData (s : State) (c : CircuitId) (payload : Payload) : State :=
  let k := s.retry.nextSequence
  let s := s.setCells c { s.cells c with sendQueue := (s.cells c).sendQueue.tail }
  let s := s.setCtx c { s.ctx c with sentCount := (s.ctx c).sentCount + 1 }
  let s := s.number c (.data payload)
  let s := s.sendQueueShortened c
  let s := if (s.cells c).sendQueue.isEmpty then s.sendQueueEmptied c else s
  let s := { s with transmit := { s.transmit with dataPointer := c } }
  s.send .firstData (.data k c payload)

/-- The Arbiter takes what it chose (R105 to R108, R111). -/
def State.take (s : State) : Choice → State
  | .linkAnswer x =>
    State.send
      { s with transmit := { s.transmit with linkSlot := { s.transmit.linkSlot with answer := none } } }
      .linkAnswer (.signal x)
  | .linkStanding x =>
    State.send
      { s with transmit := { s.transmit with linkSlot := { s.transmit.linkSlot with due := false } } }
      .linkStanding (.signal x)
  | .ackNak x =>
    State.send { s with transmit := { s.transmit with ackNak := none } } .ackNak (.signal x.toSignal)
  | .resend i e => State.send { s with retry := s.retry.resent i } .resend e.frame
  | .word c w => s.takeWord c w
  | .data c payload => s.takeData c payload

/-- The Arbiter makes a choice where the transmitter is idle and a frame may be sent; taking it is a claim of its
own (R109). -/
def State.arbitrate (s : State) : State :=
  match s.transmit.wire with
  | some _ => s
  | none =>
    match s.choice with
    | some x => (s.take x).closeClaim
    | none => s

/-- The end of a claim, and the choice that can come with it (R109, R161; log 7). -/
def State.settle (s : State) : State := s.closeClaim.arbitrate

/-- A claim on a running part, then the Arbiter's choice; a held part takes nothing (R188; log 14). -/
def State.event (s : State) (f : State → State) : StepOutcome :=
  .next (if s.isRunning then (f s).settle else s)

end Sys2Proof.Machine
end

