-- ==== Sys2Proof/Machine/BufferRequests.lean ====
section
/-!
DEFINITION. The Buffer Manager's requests: SEND, FETCH, DISCARD (chapter Cell Pool and Credit).
-/

namespace Sys2Proof.Machine

/-- Whether SEND passes the gate: CONNECTED with the quiet marker clear, or WAKING with no release held
(R44). -/
def State.sendGate (s : State) (c : CircuitId) : Bool :=
  match (s.ctx c).state with
  | .connected => !(s.ctx c).quietMarker
  | .waking => !(s.slots c).releaseHeld
  | .idle | .dialing | .ringing | .quieting | .quiet | .releasing | .barred | .failed => false

/-- The checks of SEND, in their order; none where it passes (R57). -/
def State.sendRefusal (s : State) (c : CircuitId) (payload : Payload) : Option Status :=
  if !s.sendGate c then some .badState
  else if !payloadFits payload then some .badLength
  else if (s.ctx c).sendDepth ≤ (s.cells c).sendQueue.length then some .queueFull
  else if s.pool.free = 0 then some .noBuffer
  else none

/-- A free cell takes the payload and joins the tail of the send queue (R57). -/
def State.queuePayload (s : State) (c : CircuitId) (payload : Payload) : State :=
  State.setCells { s with pool := { s.pool with free := s.pool.free - 1 } } c
    { s.cells c with sendQueue := (s.cells c).sendQueue ++ [payload] }

/-- Whether a refusal of SEND sets the refused marker (R57, R72). -/
def setsRefusedMarker : Status → Bool
  | .queueFull | .noBuffer => true
  | .ok | .unknown | .badLength | .badCircuit | .badValue | .badState | .notUp | .napping | .empty | .unread
  | .holdoff | .notQuiet | .unacked | .pendingNotice | .holding | .busy => false

/-- SEND (R57). -/
def sendRequest (c : CircuitId) (payload : Payload) (s : State) : Taken :=
  match s.sendRefusal c payload with
  | some st => (if setsRefusedMarker st then s.setCtx c { s.ctx c with refusedMarker := true } else s).refuse st
  | none => (s.queuePayload c payload).taken

/-- The first `n` cells leave circuit `c`'s receive queue: to the reservation with G raised and CREDIT placed on
a live call, to the free pool as one freeing event otherwise; an emptied queue clears the ARRIVED latch
(R66, R67, R169). -/
def State.removeReceived (s : State) (c : CircuitId) (n : Nat) : State :=
  let y := s.cells c
  let s := s.setCells c { y with receiveQueue := y.receiveQueue.drop n }
  let s :=
    if (s.ctx c).state.isLive then
      let s := s.setCells c { s.cells c with reserved := (s.cells c).reserved + n }
      let s := s.setCtx c { s.ctx c with granted := (s.ctx c).granted + count8 n }
      s.placeCredit c
    else s.releaseCells n
  if (y.receiveQueue.drop n).isEmpty then { s with notices := s.notices.receiveQueueEmpty c } else s

/-- FETCH (R65). -/
def fetchRequest (c : CircuitId) (s : State) : Taken :=
  match (s.cells c).receiveQueue with
  | [] => s.refuse .empty
  | payload :: rest =>
    (s.removeReceived c 1).answering
      (circuitByte c :: count8 rest.length :: count8 payload.length :: payload)

/-- How many cells a DISCARD choice removes: 0 for OLDEST, 1 for ALL (R67, R193). -/
def discardCount (choice : Byte) (held : Nat) : Option Nat :=
  if choice = 0 then some 1 else if choice = 1 then some held else none

/-- DISCARD (R67). -/
def discardRequest (c : CircuitId) (choice : Byte) (s : State) : Taken :=
  match discardCount choice (s.cells c).receiveQueue.length with
  | none => s.refuse .badValue
  | some n =>
    if (s.cells c).receiveQueue.isEmpty then s.refuse .empty
    else (s.removeReceived c n).answering [count8 n]

end Sys2Proof.Machine
end

