-- ==== Sys2Proof/Machine/CallRequests.lean ====
section
/-!
DEFINITION. The Circuit Controller's requests: DIAL, ACCEPT, REFUSE, HANGUP, BAR, UNBAR, QUIET, WAKE, OPTIONS,
CIRCUIT-STATUS (chapters Circuit Contexts and Calls, Quiet and Wake).
-/

namespace Sys2Proof.Machine

/-! ## Dialling and answering -/

/-- A DIAL that passed its checks (R10). -/
def State.openCall (s : State) (c : CircuitId) (window depth : Byte) : State :=
  let k := (s.ctx c).callNumber + 1
  let s := s.reserve c window.toNat
  let s := s.setCtx c
    { s.ctx c with
      callNumber := k, role := some .caller, window := some window.toNat, sendDepth := depth.toNat
      creditLimit := 0, sentCount := 0, granted := window, receivedCount := 0
      timer := .dial s.port.parameters.dialTimeout }
  let s := s.setSlots c { s.slots c with request := some ⟨.dial window, k, false, false⟩, overflow := none }
  let s := s.enter c .dialing .host
  s.abandonNapAsk .host

/-- The checks of DIAL, in their order; none where it passes (R9). -/
def State.dialRefusal (s : State) (c : CircuitId) (window depth : Byte) : Option Status :=
  if (s.ctx c).state ≠ .idle then some .badState
  else if !(s.cells c).receiveQueue.isEmpty then some .unread
  else if !s.link.state.isLive && !s.link.state.isNapping then some .notUp
  else if s.link.state.isNapping then some .napping
  else if !(isWindow window && isDepth depth) then some .badValue
  else if s.pool.free < window.toNat then some .noBuffer
  else none

/-- DIAL (R9, R10). -/
def dialRequest (c : CircuitId) (window depth : Byte) (s : State) : Taken :=
  match s.dialRefusal c window depth with
  | some st => s.refuse st
  | none => (s.openCall c window depth).taken

/-- The window an ACCEPT names, and the depth, with the defaults for those not given (R15, R193). -/
def acceptWindow (x : Context) (window : Byte) : Nat := if window = 0 then x.answerWindow else window.toNat
def acceptDepth (depth : Byte) : Nat := if depth = 0 then Config.depthDefault else depth.toNat

/-- The checks of ACCEPT, in their order; none where it passes (R15). -/
def State.acceptRefusal (s : State) (c : CircuitId) (window depth : Byte) : Option Status :=
  if (s.ctx c).state ≠ .ringing then some .badState
  else if !(s.cells c).receiveQueue.isEmpty then some .unread
  else if !((window == 0 || isWindow window) && (depth == 0 || isDepth depth)) then some .badValue
  else if s.pool.free < acceptWindow (s.ctx c) window then some .noBuffer
  else none

/-- An ACCEPT that passed its checks (R15). -/
def State.answerCall (s : State) (c : CircuitId) (window depth : Nat) : State :=
  let s := s.reserve c window
  let s := s.setCtx c
    { s.ctx c with
      timer := .stopped, window := some window, sendDepth := depth, granted := count8 window, receivedCount := 0 }
  let s := s.placeAnswer c (.answer (count8 window)) (s.ctx c).callNumber
  s.enter c .connected .host

/-- ACCEPT (R15). -/
def acceptRequest (c : CircuitId) (window depth : Byte) (s : State) : Taken :=
  match s.acceptRefusal c window depth with
  | some st => s.refuse st
  | none => (s.answerCall c (acceptWindow (s.ctx c) window) (acceptDepth depth)).taken

/-- The offered call ends: close-down, REJECT with a reason, IDLE with a cause (R16, R17). -/
def State.declineCall (s : State) (c : CircuitId) (reason : Byte) (cause : CircuitCause) : State :=
  let s := s.closeDown c false
  let s := s.placeAnswer c (.reject reason) (s.ctx c).callNumber
  s.enter c .idle cause

/-- REFUSE (R16). -/
def refuseRequest (c : CircuitId) (s : State) : Taken :=
  if (s.ctx c).state = .ringing then (s.declineCall c reasonRefused .host).taken else s.refuse .badState

/-! ## Releasing -/

/-- A DIALING call is given up: close-down, HANG for it where its DIAL was sent, IDLE with a cause
(R11, R22). -/
def State.giveUpDial (s : State) (c : CircuitId) (cause : CircuitCause) : State :=
  let sent := !(s.slots c).holdsDial
  let s := s.closeDown c false
  let s := if sent then s.placeRequest c .hang false false else s
  s.enter c .idle cause

/-- The orderly release: the quiet marker clears, HANG takes the REQUEST slot, held for draining while the send
queue is not empty, and the circuit becomes RELEASING (R23, R48, R49). -/
def State.beginRelease (s : State) (c : CircuitId) : State :=
  let s := s.setCtx c { s.ctx c with quietMarker := false }
  let s := s.placeRequest c .hang (!(s.cells c).sendQueue.isEmpty) false
  s.enter c .releasing .host

/-- A release recorded while the trunk naps: HANG held for the rouse, and for draining while the send queue is
not empty; the state stays (R49). -/
def State.holdRelease (s : State) (c : CircuitId) : State :=
  s.placeRequest c .hang (!(s.cells c).sendQueue.isEmpty) true

/-- A FAILED circuit is released by its host (R22). -/
def State.releaseFailed (s : State) (c : CircuitId) : State :=
  State.enter (s.setCtx c { s.ctx c with role := none }) c .idle .host

/-- HANGUP of a QUIET circuit, by the trunk state (R49). A trunk state the table has no row for is refused
BAD-STATE (log 11). -/
def hangupQuiet (c : CircuitId) (s : State) : Taken :=
  match s.link.state with
  | .up | .retune => (s.beginRelease c).taken
  | .napAsking => ((s.beginRelease c).abandonNapAsk .host).taken
  | .nap => if (s.slots c).releaseHeld then s.refuse .badState else ((s.holdRelease c).startRouse).taken
  | .rousing => if (s.slots c).releaseHeld then s.refuse .badState else (s.holdRelease c).taken
  | .down | .training | .closing | .fault => s.refuse .badState

/-- HANGUP of a WAKING circuit (R49). A trunk state the table has no row for is refused BAD-STATE (log 11). -/
def hangupWaking (c : CircuitId) (s : State) : Taken :=
  if !s.link.state.isNapping || (s.slots c).releaseHeld then s.refuse .badState
  else (s.holdRelease c).taken

/-- HANGUP (R22, R23, R48, R49). -/
def hangupRequest (c : CircuitId) (s : State) : Taken :=
  match (s.ctx c).state with
  | .idle | .barred | .ringing | .releasing => s.refuse .badState
  | .dialing => (s.giveUpDial c .host).taken
  | .connected | .quieting => (s.beginRelease c).taken
  | .quiet => hangupQuiet c s
  | .waking => hangupWaking c s
  | .failed => (s.releaseFailed c).taken

/-! ## Barring -/

/-- BAR (R28). -/
def barRequest (c : CircuitId) (s : State) : Taken :=
  if (s.ctx c).state = .idle then (s.enter c .barred .host).taken else s.refuse .badState

/-- UNBAR (R28). -/
def unbarRequest (c : CircuitId) (s : State) : Taken :=
  if (s.ctx c).state = .barred then (s.enter c .idle .host).taken else s.refuse .badState

/-! ## Quiet and wake -/

/-- The checks of QUIET, in their order; none where it passes (R36). -/
def State.quietRefusal (s : State) (c : CircuitId) : Option Status :=
  let x := s.ctx c
  if x.state ≠ .connected ∨ x.quietMarker then some .badState
  else if (s.slots c).holdsWake x.callNumber then some .busy
  else if x.holdoff.isSome && !x.askSinceRefusal then some .holdoff
  else none

/-- A QUIET that passed its checks (R37). -/
def State.askQuiet (s : State) (c : CircuitId) : State :=
  let x := s.ctx c
  let s := s.setCtx c
    { x with
      quietMarker := true, holdoff := none
      askSinceRefusal := if x.holdoff.isSome then false else x.askSinceRefusal }
  let s := s.placeRequest c .quietAsk (!(s.cells c).sendQueue.isEmpty) false
  if (s.cells c).sendQueue.isEmpty then s.enter c .quieting .host else s

/-- QUIET (R36, R37). -/
def quietRequest (c : CircuitId) (s : State) : Taken :=
  match s.quietRefusal c with
  | some st => s.refuse st
  | none => (s.askQuiet c).taken

/-- WAKE of a QUIET circuit with the trunk live: WAKE takes the REQUEST slot (R45). -/
def State.wakeNow (s : State) (c : CircuitId) : State :=
  (s.placeRequest c .wake false false).enter c .connected .host

/-- WAKE (R45). A trunk state the table has no row for is refused BAD-STATE (log 11). -/
def wakeRequest (c : CircuitId) (s : State) : Taken :=
  if (s.ctx c).state ≠ .quiet ∨ (s.slots c).releaseHeld then s.refuse .badState
  else
    match s.link.state with
    | .up | .retune => (s.wakeNow c).taken
    | .napAsking => s.refuse .busy
    | .nap => ((s.enter c .waking .host).startRouse).taken
    | .rousing => (s.enter c .waking .host).taken
    | .down | .training | .closing | .fault => s.refuse .badState

/-! ## Options and status -/

/-- OPTIONS (R31). -/
def optionsRequest (c : CircuitId) (autoQuiet answerWindow : Byte) (s : State) : Taken :=
  match settingOf autoQuiet with
  | some on =>
    if isWindow answerWindow then
      (s.setCtx c { s.ctx c with autoQuiet := on, answerWindow := answerWindow.toNat }).taken
    else s.refuse .badValue
  | none => s.refuse .badValue

/-- The flags byte of a circuit status (section 10.2): bits 0 to 4. -/
def circuitFlags (x : Context) : Byte :=
  (if x.quietMarker then 1 else 0) + (if x.holdoff.isSome then 2 else 0) + (if x.askSinceRefusal then 4 else 0)
    + (if x.autoQuiet then 8 else 0) + (if x.refusedMarker then 16 else 0)

/-- The circuit status, 18 bytes (R33, section 10.2). -/
def State.circuitStatus (s : State) (c : CircuitId) : List Byte :=
  let x := s.ctx c
  let y := s.cells c
  [circuitByte c, circuitStateCode x.state, codeOr circuitCauseCode x.lastCause, x.callNumber,
   codeOr roleCode x.role, count8 (x.window.getD 0), count8 x.sendDepth, x.creditLimit, x.sentCount, x.granted,
   x.receivedCount, x.credit, count8 y.sendQueue.length, count8 y.receiveQueue.length, count8 y.reserved,
   count8 x.answerWindow, circuitTimerCode x.timer, circuitFlags x]

/-- CIRCUIT-STATUS (R33). -/
def circuitStatusRequest (c : CircuitId) (s : State) : Taken := s.answering (s.circuitStatus c)

end Sys2Proof.Machine
end

