-- ==== Sys2Proof/Machine/NoticeRequests.lean ====
section
/-!
DEFINITION. The Notice Unit's requests: POLL, MASK, DISMISS (chapter Notices).
-/

namespace Sys2Proof.Machine

/-- The marks byte of a TRUNK:STATE detail (section 10.3). -/
def stateMarks (l : LinkController) : Byte :=
  (if l.peerCalling then 1 else 0) + (if l.holdElapsed then 2 else 0)

/-- The four detail bytes of a pair, read when the POLL is taken (R165, section 10.3). -/
def State.detail (s : State) : Pair → List Byte
  | .trunkState => [trunkStateCode s.link.state, codeOr trunkCauseCode s.link.cause, stateMarks s.link, 0]
  | .trunkError => [count8 s.checker.errorCounter, 0, 0, 0]
  | .portError => count16 s.port.frameErrors ++ count16 s.port.overruns
  | .state c => [circuitStateCode (s.ctx c).state, codeOr circuitCauseCode (s.ctx c).lastCause, 0, 0]
  | .arrived c => [count8 (s.cells c).receiveQueue.length, 0, 0, 0]
  | .room c => [count8 ((s.ctx c).sendDepth - (s.cells c).sendQueue.length), 0, 0, 0]

/-- The report of a delivered entry (R164, section 10.3). -/
def State.noticeReport (s : State) (p : Pair) : List Byte :=
  [sourceCode p, kindCode p, count8 (s.notices.record p).unreported, markByte (s.notices.record p).latch]
    ++ s.detail p

/-- Whether a delivered pair keeps its latch: ARRIVED with cells left in the receive queue (R166). -/
def State.keepsLatch (s : State) : Pair → Bool
  | .arrived c => !(s.cells c).receiveQueue.isEmpty
  | .trunkState | .trunkError | .portError | .state _ | .room _ => false

/-- The entries a POLL delivers: the first four, or all of fewer (R164, step 1). -/
def NoticeUnit.delivered (n : NoticeUnit) : List Pair := n.queue.take Config.pollReports

/-- The Notice Unit after a POLL: the delivered pairs are cleared, their entries leave, the scan runs
(R164, steps 3 to 6). -/
def State.polled (s : State) : NoticeUnit :=
  let cleared := s.notices.delivered.foldl (fun n p => n.clearDelivered (s.keepsLatch p) p) s.notices
  (cleared.setQueue (s.notices.queue.drop Config.pollReports)).refill

/-- The poll report (R164, section 10.3). -/
def State.pollReport (s : State) : List Byte :=
  [count8 s.notices.delivered.length, count8 s.polled.queue.length]
    ++ le32 (BitVec.ofNat 32 s.polled.latchSummary)
    ++ s.notices.delivered.flatMap s.noticeReport

/-- POLL (R164). -/
def pollRequest (s : State) : Taken := State.answering { s with notices := s.polled } s.pollReport

/-- A pair's U and latch as reply bytes (R170, R171, section 10.2). -/
def NoticeUnit.pairReply (n : NoticeUnit) (p : Pair) : List Byte :=
  [count8 (n.record p).unreported, markByte (n.record p).latch]

/-- MASK (R171). -/
def maskRequest (source kind setting : Byte) (s : State) : Taken :=
  match pairOf source kind, settingOf setting with
  | some p, some on =>
    let masked := s.notices.setMask p on
    let n := if on then masked else masked.visit p
    State.answering { s with notices := n } (n.pairReply p)
  | _, _ => s.refuse .badValue

/-- DISMISS (R170). -/
def dismissRequest (source kind : Byte) (s : State) : Taken :=
  match pairOf source kind with
  | some p => State.answering { s with notices := (s.notices.forget p).refill } (s.notices.pairReply p)
  | none => s.refuse .badValue

end Sys2Proof.Machine
end

