-- ==== Sys2Proof/Machine/PortRequests.lean ====
section
/-!
DEFINITION. The Host Port's requests: IDENT, SET, GET, COUNTERS, RESTART (chapter The Host Port).
-/

namespace Sys2Proof.Machine

/-- IDENT's reply body (R186, section 10.2). -/
def HostPort.identity (p : HostPort) : List Byte :=
  [Config.vendorLow, Config.vendorHigh, Config.partCode, Config.siliconRevision, sideCode p.side,
   lineSpeedCode p.speed, Config.trunkVersion, startCauseCode p.startCause, markByte p.freshStart]

/-- IDENT: the fresh-start mark clears after the reply has been built (R186). -/
def identRequest (s : State) : Taken :=
  State.answering { s with port := { s.port with freshStart := false } } s.port.identity

/-! ## SET and GET -/

/-- A running state timer of a kind restarts with a new value (R185). -/
def LinkController.restartTimer (l : LinkController) (k : StateTimerKind) (v : Nat) : LinkController :=
  match l.stateTimer with
  | some t => if t.kind = k then { l with stateTimer := some ⟨k, v⟩ } else l
  | none => l

/-- A timer restarts with a new value where it runs; a stopped one stays stopped (R185). -/
def restarted (timer : Option Nat) (v : Nat) : Option Nat := timer.map fun _ => v

/-- A running dial timer restarts with a new value (R185). -/
def Context.restartDial (x : Context) (v : Nat) : Context :=
  match x.timer with
  | .dial _ => { x with timer := .dial v }
  | .stopped | .ring _ => x

/-- A running ring timer restarts with a new value (R185). -/
def Context.restartRing (x : Context) (v : Nat) : Context :=
  match x.timer with
  | .ring _ => { x with timer := .ring v }
  | .stopped | .dial _ => x

/-- The running timers a parameter governs restart with its new value (R185). -/
def State.restartTimers (s : State) (p : Param) (v : Nat) : State :=
  match p with
  | .ackTimeout => { s with retry := { s.retry with replayTimer := restarted s.retry.replayTimer v } }
  | .errorWindow => { s with checker := { s.checker with errorWindow := restarted s.checker.errorWindow v } }
  | .retuneTimeout => { s with link := s.link.restartTimer .retune v }
  | .faultHold => { s with link := s.link.restartTimer .faultHold v }
  | .trainTimeout => { s with link := s.link.restartTimer .train v }
  | .helloInterval => { s with link := { s.link with repeatTimer := restarted s.link.repeatTimer v } }
  | .dialTimeout => { s with circuits := s.circuits.map fun x => x.restartDial v }
  | .ringTimeout => { s with circuits := s.circuits.map fun x => x.restartRing v }
  | .quietHoldoff =>
    { s with circuits := s.circuits.map fun x => { x with holdoff := restarted x.holdoff v } }
  | .napAskTimeout => { s with link := s.link.restartTimer .napAsk v }
  | .rouseTimeout => { s with link := s.link.restartTimer .rouse v }
  | .closeTimeout => { s with link := s.link.restartTimer .close v }
  | .replayLimit | .errorThreshold | .retuneLimit | .autoFollow => s

/-- A parameter takes a value; where it differs from the value held, the timers it governs restart (R184). -/
def State.setParameter (s : State) (p : Param) (v : Nat) : State :=
  if s.port.parameters.get p = v then s
  else
    State.restartTimers { s with port := { s.port with parameters := s.port.parameters.set p v } } p v

/-- SET (R184). -/
def setRequest (number low high : Byte) (s : State) : Taken :=
  match paramOf number with
  | some p =>
    if inRange p (valueOf16 low high) then
      (s.setParameter p (valueOf16 low high)).answering (number :: count16 (valueOf16 low high))
    else s.refuse .badValue
  | none => s.refuse .badValue

/-- GET (R183). -/
def getRequest (number : Byte) (s : State) : Taken :=
  match paramOf number with
  | some p => s.answering (number :: count16 (s.port.parameters.get p))
  | none => s.refuse .badValue

/-! ## COUNTERS -/

/-- The ten counters in the order COUNTERS reports them (R187). -/
def State.counters (s : State) : List Nat :=
  [s.checker.checkErrors, s.retry.replays, s.link.retunes, s.link.faults, s.pool.staleCells, s.pool.lostCells,
   s.pool.badWords, s.retry.straySignals, s.port.frameErrors, s.port.overruns]

/-- Every counter becomes 0 (R187). -/
def State.clearCounters (s : State) : State :=
  { s with
    checker := { s.checker with checkErrors := 0 }
    retry := { s.retry with replays := 0, straySignals := 0 }
    link := { s.link with retunes := 0, faults := 0 }
    pool := { s.pool with staleCells := 0, lostCells := 0, badWords := 0 }
    port := { s.port with frameErrors := 0, overruns := 0 } }

/-- COUNTERS (R187). -/
def countersRequest (flag : Byte) (s : State) : Taken :=
  match settingOf flag with
  | some clear => (if clear then s.clearCounters else s).answering (s.counters.flatMap count16)
  | none => s.refuse .badValue

/-- RESTART: the part waits for its reply to leave, and no request is taken meanwhile (R190). -/
def restartRequest (s : State) : Taken :=
  State.taken { s with port := { s.port with restart := .waiting } }

end Sys2Proof.Machine
end

