-- ==== Sys2Proof/Machine/TrunkRequests.lean ====
section
/-!
DEFINITION. The Link Controller's requests: TRUNK-UP, TRUNK-DOWN, RETUNE, NAP, ROUSE, TRUNK-STATUS (chapters Trunk
States, Nap and Rouse).
-/

namespace Sys2Proof.Machine

/-- TRUNK-UP (R120). -/
def trunkUpRequest (s : State) : Taken :=
  match s.link.state with
  | .down => (s.enterTraining .host false).taken
  | .fault => if s.link.holdElapsed then (s.enterTraining .host false).taken else s.refuse .holding
  | .training | .up | .retune | .napAsking | .nap | .rousing | .closing => s.refuse .badState

/-- TRUNK-DOWN (R133). -/
def trunkDownRequest (s : State) : Taken :=
  match s.link.state with
  | .up | .retune | .napAsking | .nap | .rousing => s.enterClosing.taken
  | .training => (s.enterDown .host).taken
  | .fault => if s.link.holdElapsed then (s.enterDown .host).taken else s.refuse .holding
  | .down | .closing => s.refuse .badState

/-- RETUNE (R128). -/
def retuneRequest (s : State) : Taken :=
  if s.link.state = .up then (s.retuneCause .host false).taken else s.refuse .badState

/-- The checks of NAP, in their order; none where it passes (R145). -/
def State.napRefusal (s : State) : Option Status :=
  if s.link.state ≠ .up then some .badState
  else if s.link.napGranted then some .busy
  else if !s.circuitsMayNap || s.wordPending then some .notQuiet
  else if !s.retry.entries.isEmpty then some .unacked
  else if s.notices.pendingNotices then some .pendingNotice
  else none

/-- NAP (R145). -/
def napRequest (s : State) : Taken :=
  match s.napRefusal with
  | some st => s.refuse st
  | none => s.enterNapAsking.taken

/-- ROUSE (R152). -/
def rouseRequest (s : State) : Taken :=
  if s.link.state = .nap then s.startRouse.taken else s.refuse .badState

/-- A mark at a bit of a marks byte. -/
def markBit (b : Bool) (value : Byte) : Byte := if b then value else 0

/-- The marks byte of a trunk status: peer calling and hold elapsed always, the training marks in TRAINING, the
retune marks in RETUNE (R141, section 10.2). -/
def trunkMarks (l : LinkController) : Byte :=
  let training := l.state == .training
  let retune := l.state == .retune
  markBit l.peerCalling 1 + markBit l.holdElapsed 2
    + markBit (training && l.peerHeard) 4 + markBit (training && l.peerReady) 8
    + markBit (training && l.readySent) 16
    + markBit (retune && l.tuneHeard) 32 + markBit (retune && l.tuneOkReceived) 64
    + markBit (retune && l.tuneOkSent) 128

/-- The entry under the replay pointer (R75). -/
def RetryUnit.pointed (r : RetryUnit) : Option RetryEntry :=
  match r.replayPointer with
  | some i => r.entries[i]?
  | none => none

/-- The trunk status, 18 bytes (R141, section 10.2). -/
def State.trunkStatus (s : State) : List Byte :=
  let head := s.retry.entries.head?
  let pointed := s.retry.pointed
  [trunkStateCode s.link.state, codeOr trunkCauseCode s.link.cause, sideCode s.port.side,
   count8 s.link.retuneCounter, trunkMarks s.link,
   (match s.link.stateTimer with
    | some t => stateTimerCode t.kind
    | none => 0),
   count8 s.retry.entries.length, markBit head.isSome 1 + markBit pointed.isSome 2,
   (match head with
    | some e => e.sequence
    | none => 0),
   s.retry.nextSequence,
   (match pointed with
    | some e => e.sequence
    | none => 0),
   count8 s.retry.replayCounter,
   (match head with
    | some e => count8 e.transmissions
    | none => 0),
   s.checker.expected, markByte s.checker.nakOutstanding, count8 s.checker.errorCounter]
   ++ count16 s.pool.free

/-- TRUNK-STATUS (R141). -/
def trunkStatusRequest (s : State) : Taken := s.answering s.trunkStatus

end Sys2Proof.Machine
end

