-- ==== Sys2Proof/Machine/HostLine.lean ====
section
/-!
DEFINITION. The host line (chapter The Host Port): taking requests, the receive framer, the reply queue.
-/

namespace Sys2Proof.Machine

/-! ## Taking requests (R178, R179) -/

/-- A request that passed the port's checks is handed to its owner (R179). -/
def handRequest (s : State) : Request → Taken
  | .trunkUp => trunkUpRequest s
  | .trunkDown => trunkDownRequest s
  | .retune => retuneRequest s
  | .nap => napRequest s
  | .rouse => rouseRequest s
  | .trunkStatus => trunkStatusRequest s
  | .dial c w d => withCircuit c s fun c => dialRequest c w d s
  | .accept c w d => withCircuit c s fun c => acceptRequest c w d s
  | .refuse c => withCircuit c s fun c => refuseRequest c s
  | .hangup c => withCircuit c s fun c => hangupRequest c s
  | .bar c => withCircuit c s fun c => barRequest c s
  | .unbar c => withCircuit c s fun c => unbarRequest c s
  | .quiet c => withCircuit c s fun c => quietRequest c s
  | .wake c => withCircuit c s fun c => wakeRequest c s
  | .options c a w => withCircuit c s fun c => optionsRequest c a w s
  | .circuitStatus c => withCircuit c s fun c => circuitStatusRequest c s
  | .send c payload => withCircuit c s fun c => sendRequest c payload s
  | .fetch c => withCircuit c s fun c => fetchRequest c s
  | .discard c choice => withCircuit c s fun c => discardRequest c choice s
  | .poll => pollRequest s
  | .mask source kind setting => maskRequest source kind setting s
  | .dismiss source kind => dismissRequest source kind s
  | .ident => identRequest s
  | .set number low high => setRequest number low high s
  | .get number => getRequest number s
  | .counters flag => countersRequest flag s
  | .restart => restartRequest s

/-- The Host Port's checks, then the owner (R179). -/
def State.judge (s : State) (kind : Byte) (body : List Byte) : Taken :=
  match readRequest kind body with
  | .error st => s.refuse st
  | .ok r => handRequest s r

/-- The built reply joins the tail of the reply queue (R178, R180). -/
def Taken.reply (t : Taken) (tag : Byte) : State :=
  { t.state with
    port := { t.state.port with replies := t.state.port.replies ++ [⟨t.status, tag, t.body⟩] } }

/-- A request is taken: checked, handed to its owner, answered (R178, R179). -/
def State.takeRequest (s : State) (f : HostFrame) : State := (s.judge f.kind f.body).reply f.tag

/-- Whether the head of the intake queue may be taken: the reply queue has room and no RESTART waits
(R178, R190). -/
def HostPort.mayTake (p : HostPort) : Bool :=
  decide (p.replies.length < Config.replyCapacity) && p.restart == .none

/-- The state with another intake queue. -/
def State.setIntake (s : State) (q : List HostFrame) : State := { s with port := { s.port with intake := q } }

/-- Requests are taken one after another while the intake queue holds a frame and they may be taken, at most `n`
of them; each is a claim of its own (R178). -/
def State.serve (s : State) : Nat → State
  | 0 => s
  | n + 1 =>
    match s.port.intake with
    | [] => s
    | f :: rest =>
      if s.port.mayTake then State.serve ((s.setIntake rest).takeRequest f).settle n else s

/-- A good frame is complete: it joins the intake queue and is taken when it may be, or is an overrun
(R177, R178). -/
def State.goodFrame (s : State) (f : HostFrame) : State :=
  if s.port.intake.length < Config.intakeCapacity then
    (s.setIntake (s.port.intake ++ [f])).serve (s.port.intake.length + 1)
  else
    State.settle
      (State.report { s with port := { s.port with overruns := addToCounter s.port.overruns 1 } } .portError)

/-- A good request frame of a kind arrives at a running part (R177; log 5). -/
def State.hostFrame (s : State) (kind tag : Byte) (body : List Byte) : StepOutcome :=
  .next (if s.isRunning then s.goodFrame ⟨kind, tag, body⟩ else s)

/-! ## The receive framer (R174 to R176) -/

/-- The state with another framer. -/
def State.setFramer (s : State) (f : Framer) : State := { s with port := { s.port with framer := f } }

/-- A host frame is discarded: the framer hunts, the frame-errors counter goes up, one PORT:ERROR is reported
(R176). -/
def State.discardFrame (s : State) : State :=
  State.report
    { s with port := { s.port with framer := .hunting, frameErrors := addToCounter s.port.frameErrors 1 } }
    .portError

/-- The second CHECK byte has come: the CRC decides (R174, R176, R177). -/
def State.checkFrame (s : State) (length : Byte) (bytes : List Byte) (low high : Byte) : State :=
  match bytes with
  | kind :: tag :: body =>
    if le16 (crc16 (length :: bytes)) = [low, high] then (s.setFramer .hunting).goodFrame ⟨kind, tag, body⟩
    else s.discardFrame.settle
  | _ => s.discardFrame.settle

/-- Whether a LENGTH byte is one a frame may have (R174). -/
def isLength (b : Byte) : Bool := decide (Config.lengthMin ≤ b.toNat ∧ b.toNat ≤ Config.lengthMax)

/-- A byte arrives on HRX (R174). -/
def State.hostByte (s : State) (b : Byte) (stopBit : Bool) : State :=
  match s.port.framer with
  | .hunting => if stopBit && b == Config.sync then s.setFramer .awaitingLength else s
  | .awaitingLength =>
    if stopBit && isLength b then s.setFramer (.collecting b []) else s.discardFrame.settle
  | .collecting length bytes =>
    if stopBit then
      if bytes.length + 1 < length.toNat then s.setFramer (.collecting length (bytes ++ [b]))
      else s.setFramer (.awaitingCheck length (bytes ++ [b]) none)
    else s.discardFrame.settle
  | .awaitingCheck length bytes none =>
    if stopBit then s.setFramer (.awaitingCheck length bytes (some b)) else s.discardFrame.settle
  | .awaitingCheck length bytes (some low) =>
    if stopBit then s.checkFrame length bytes low b else s.discardFrame.settle

/-- Whether the gap timer runs: while the framer is inside a frame (R175). -/
def Framer.gapTimerRuns : Framer → Bool
  | .hunting => false
  | .awaitingLength | .collecting .. | .awaitingCheck .. => true

/-- The gap timer expires (R175). -/
def State.gapExpires (s : State) : State := if s.port.framer.gapTimerRuns then s.discardFrame else s

/-! ## The reply queue (R180, R190) -/

/-- The last byte of the head reply has left HTX: it leaves the queue, and requests that wait may be taken. The
RESTART reply is the last of the queue (R180, R190). -/
def State.replyLeaves (s : State) : State :=
  match s.port.replies with
  | [] => s
  | _ :: rest =>
    let s := { s with port := { s.port with replies := rest } }
    if s.port.restart = .waiting ∧ rest = [] then
      { s with port := { s.port with restart := .replyLeft } }
    else s.serve s.port.intake.length

/-! ## The request commands, one definition each (log 5) -/

/-- TRUNK-UP arrives as a good frame (R177, R120). -/
def execTrunkUp (tag : Byte) (body : List Byte) (s : State) : StepOutcome :=
  s.hostFrame (requestCode .trunkUp) tag body
/-- TRUNK-DOWN arrives as a good frame (R177, R133). -/
def execTrunkDown (tag : Byte) (body : List Byte) (s : State) : StepOutcome :=
  s.hostFrame (requestCode .trunkDown) tag body
/-- RETUNE arrives as a good frame (R177, R128). -/
def execRetune (tag : Byte) (body : List Byte) (s : State) : StepOutcome :=
  s.hostFrame (requestCode .retune) tag body
/-- NAP arrives as a good frame (R177, R145). -/
def execNap (tag : Byte) (body : List Byte) (s : State) : StepOutcome :=
  s.hostFrame (requestCode .nap) tag body
/-- ROUSE arrives as a good frame (R177, R152). -/
def execRouse (tag : Byte) (body : List Byte) (s : State) : StepOutcome :=
  s.hostFrame (requestCode .rouse) tag body
/-- TRUNK-STATUS arrives as a good frame (R177, R141). -/
def execTrunkStatus (tag : Byte) (body : List Byte) (s : State) : StepOutcome :=
  s.hostFrame (requestCode .trunkStatus) tag body
/-- DIAL arrives as a good frame (R177, R9, R10). -/
def execDial (tag : Byte) (body : List Byte) (s : State) : StepOutcome :=
  s.hostFrame (requestCode .dial) tag body
/-- ACCEPT arrives as a good frame (R177, R15). -/
def execAccept (tag : Byte) (body : List Byte) (s : State) : StepOutcome :=
  s.hostFrame (requestCode .accept) tag body
/-- REFUSE arrives as a good frame (R177, R16). -/
def execRefuse (tag : Byte) (body : List Byte) (s : State) : StepOutcome :=
  s.hostFrame (requestCode .refuse) tag body
/-- HANGUP arrives as a good frame (R177, R22). -/
def execHangup (tag : Byte) (body : List Byte) (s : State) : StepOutcome :=
  s.hostFrame (requestCode .hangup) tag body
/-- BAR arrives as a good frame (R177, R28). -/
def execBar (tag : Byte) (body : List Byte) (s : State) : StepOutcome :=
  s.hostFrame (requestCode .bar) tag body
/-- UNBAR arrives as a good frame (R177, R28). -/
def execUnbar (tag : Byte) (body : List Byte) (s : State) : StepOutcome :=
  s.hostFrame (requestCode .unbar) tag body
/-- QUIET arrives as a good frame (R177, R36, R37). -/
def execQuiet (tag : Byte) (body : List Byte) (s : State) : StepOutcome :=
  s.hostFrame (requestCode .quiet) tag body
/-- WAKE arrives as a good frame (R177, R45). -/
def execWake (tag : Byte) (body : List Byte) (s : State) : StepOutcome :=
  s.hostFrame (requestCode .wake) tag body
/-- OPTIONS arrives as a good frame (R177, R31). -/
def execOptions (tag : Byte) (body : List Byte) (s : State) : StepOutcome :=
  s.hostFrame (requestCode .options) tag body
/-- CIRCUIT-STATUS arrives as a good frame (R177, R33). -/
def execCircuitStatus (tag : Byte) (body : List Byte) (s : State) : StepOutcome :=
  s.hostFrame (requestCode .circuitStatus) tag body
/-- SEND arrives as a good frame (R177, R57). -/
def execSend (tag : Byte) (body : List Byte) (s : State) : StepOutcome :=
  s.hostFrame (requestCode .send) tag body
/-- FETCH arrives as a good frame (R177, R65). -/
def execFetch (tag : Byte) (body : List Byte) (s : State) : StepOutcome :=
  s.hostFrame (requestCode .fetch) tag body
/-- DISCARD arrives as a good frame (R177, R67). -/
def execDiscard (tag : Byte) (body : List Byte) (s : State) : StepOutcome :=
  s.hostFrame (requestCode .discard) tag body
/-- POLL arrives as a good frame (R177, R164). -/
def execPoll (tag : Byte) (body : List Byte) (s : State) : StepOutcome :=
  s.hostFrame (requestCode .poll) tag body
/-- MASK arrives as a good frame (R177, R171). -/
def execMask (tag : Byte) (body : List Byte) (s : State) : StepOutcome :=
  s.hostFrame (requestCode .mask) tag body
/-- DISMISS arrives as a good frame (R177, R170). -/
def execDismiss (tag : Byte) (body : List Byte) (s : State) : StepOutcome :=
  s.hostFrame (requestCode .dismiss) tag body
/-- IDENT arrives as a good frame (R177, R186). -/
def execIdent (tag : Byte) (body : List Byte) (s : State) : StepOutcome :=
  s.hostFrame (requestCode .ident) tag body
/-- SET arrives as a good frame (R177, R184). -/
def execSet (tag : Byte) (body : List Byte) (s : State) : StepOutcome :=
  s.hostFrame (requestCode .set) tag body
/-- GET arrives as a good frame (R177, R183). -/
def execGet (tag : Byte) (body : List Byte) (s : State) : StepOutcome :=
  s.hostFrame (requestCode .get) tag body
/-- COUNTERS arrives as a good frame (R177, R187). -/
def execCounters (tag : Byte) (body : List Byte) (s : State) : StepOutcome :=
  s.hostFrame (requestCode .counters) tag body
/-- RESTART arrives as a good frame (R177, R190). -/
def execRestart (tag : Byte) (body : List Byte) (s : State) : StepOutcome :=
  s.hostFrame (requestCode .restart) tag body
/-- A good frame whose KIND is no request code arrives (R177, R179). -/
def execUnknownRequest (kind tag : Byte) (body : List Byte) (s : State) : StepOutcome :=
  s.hostFrame kind tag body

/-! ## The host line's events -/

/-- HOST_BYTE_RECEIVED (R174). -/
def execHostByteReceived (value : Byte) (stopBit : Bool) (s : State) : StepOutcome :=
  .next (if s.isRunning then s.hostByte value stopBit else s)

/-- GAP_TIMER_EXPIRY (R175). -/
def execGapTimerExpiry (s : State) : StepOutcome := s.event State.gapExpires

/-- REPLY_SENT (R180). -/
def execReplySent (s : State) : StepOutcome :=
  .next (if s.isRunning then s.replyLeaves else s)

end Sys2Proof.Machine
end

