-- ==== Sys2Proof/Machine/Words.lean ====
section
/-!
DEFINITION. What an accepted cell does: the control words of the Circuit Controller, CREDIT and data cells at the
Buffer Manager (chapters Circuit Contexts and Calls, Quiet and Wake, Cell Pool and Credit).
-/

namespace Sys2Proof.Machine

/-- A control word with a value out of range is counted (R34, R53). -/
def State.countBadWord (s : State) : State :=
  { s with pool := { s.pool with badWords := addToCounter s.pool.badWords 1 } }

/-! ## Call words -/

/-- A circuit rings for call `k` with a cause; in NAP-ASKING the ask is abandoned (R14, R18, R19, R149). -/
def State.ring (s : State) (c : CircuitId) (k window : Byte) (cause : CircuitCause) : State :=
  let s := s.setCtx c
    { s.ctx c with
      callNumber := k, role := some .callee, window := none
      creditLimit := window, sentCount := 0, granted := 0, receivedCount := 0
      timer := .ring s.port.parameters.ringTimeout }
  (s.enter c .ringing cause).abandonNapAsk .peer

/-- An incoming DIAL with a window in range (R14, R18, R19). -/
def State.takeDial (s : State) (c : CircuitId) (k window : Byte) : State :=
  match (s.ctx c).state with
  | .idle => s.ring c k window .peer
  | .dialing =>
    match s.port.side with
    | .a => s
    | .b => (s.closeDown c false).ring c k window .crossed
  | .ringing | .connected | .quieting | .quiet | .waking | .releasing =>
    if (s.ctx c).callNumber = k then s else (s.closeDown c false).ring c k window .superseded
  | .barred => s.placeAnswer c (.reject reasonBarred) k
  | .failed => s.placeAnswer c (.reject reasonHeld) k

/-- An incoming DIAL (R34 first). -/
def incomingDial (k window : Byte) (c : CircuitId) (s : State) : State :=
  if isWindow window then s.takeDial c k window else s.countBadWord

/-- A stale or late ANSWER draws a HANG for its call (R20). -/
def State.drawHang (s : State) (c : CircuitId) (k : Byte) : State :=
  s.setSlots c ((s.slots c).placeStaleHang k)

/-- An incoming ANSWER with a window in range (R12, R20). -/
def State.takeAnswer (s : State) (c : CircuitId) (k window : Byte) : State :=
  if (s.ctx c).isCurrent k then
    if (s.ctx c).state = .dialing then
      State.enter (s.setCtx c { s.ctx c with creditLimit := window, timer := .stopped }) c .connected .peer
    else s
  else s.drawHang c k

/-- An incoming ANSWER (R34 first). -/
def incomingAnswer (k window : Byte) (c : CircuitId) (s : State) : State :=
  if isWindow window then s.takeAnswer c k window else s.countBadWord

/-- An incoming REJECT (R13, R34). -/
def incomingReject (k reason : Byte) (c : CircuitId) (s : State) : State :=
  match rejectCauseOf reason with
  | none => s.countBadWord
  | some cause =>
    if (s.ctx c).isCurrent k ∧ (s.ctx c).state = .dialing then (s.closeDown c false).enter c .idle cause else s

/-- The call ends at the peer's request: close-down, HANG-DONE, IDLE (R25, R26). -/
def State.hungUp (s : State) (c : CircuitId) (cause : CircuitCause) (answer : Bool) : State :=
  let k := (s.ctx c).callNumber
  let s := s.closeDown c false
  let s := if answer then s.placeAnswer c .hangDone k else s
  s.enter c .idle cause

/-- An incoming HANG (R21, R25, R26, R50). -/
def incomingHang (k : Byte) (c : CircuitId) (s : State) : State :=
  if (s.ctx c).isCurrent k then
    match (s.ctx c).state with
    | .ringing | .dialing | .connected | .quieting | .quiet | .waking => s.hungUp c .peer true
    | .releasing => s.hungUp c .host ((s.slots c).holdsHang k)
    | .failed | .idle | .barred => s
  else s

/-- An incoming HANG-DONE (R21, R27). -/
def incomingHangDone (k : Byte) (c : CircuitId) (s : State) : State :=
  if (s.ctx c).isCurrent k ∧ (s.ctx c).state = .releasing then s.hungUp c .host false else s

/-! ## Quiet words -/

/-- A QUIET-ASK answered QUIET-OK (R39). -/
def State.agreeQuiet (s : State) (c : CircuitId) (k : Byte) : State :=
  let s := s.placeAnswer c .quietOk k
  let s := s.setCtx c { s.ctx c with quietMarker := false, askSinceRefusal := false, holdoff := none }
  let s :=
    if (s.ctx c).state = .quieting ∧ (s.slots c).holdsQuietAsk then
      s.setSlots c (Slots.moveOverflow { s.slots c with request := none })
    else s
  if (s.ctx c).state = .quiet then s else s.enter c .quiet .peer

/-- A QUIET-ASK answered QUIET-REFUSE (R39). -/
def State.refuseQuiet (s : State) (c : CircuitId) (k : Byte) : State :=
  let s := s.placeAnswer c .quietRefuse k
  s.setCtx c { s.ctx c with askSinceRefusal := (s.ctx c).askSinceRefusal || (s.ctx c).holdoff.isSome }

/-- Whether a CONNECTED circuit answers a QUIET-ASK with QUIET-OK (R39). -/
def State.agreesToQuiet (s : State) (c : CircuitId) : Bool :=
  (s.cells c).sendQueue.isEmpty && ((s.ctx c).quietMarker || (s.ctx c).autoQuiet)

/-- An incoming QUIET-ASK (R35, R39, R40). -/
def incomingQuietAsk (k : Byte) (c : CircuitId) (s : State) : State :=
  if (s.ctx c).isCurrent k then
    match (s.ctx c).state with
    | .quieting | .quiet => s.agreeQuiet c k
    | .connected => if s.agreesToQuiet c then s.agreeQuiet c k else s.refuseQuiet c k
    | .releasing | .waking | .dialing | .ringing | .failed | .idle | .barred => s
  else s

/-- An incoming QUIET-OK (R35, R41). -/
def incomingQuietOk (k : Byte) (c : CircuitId) (s : State) : State :=
  if (s.ctx c).isCurrent k ∧ (s.ctx c).state = .quieting then
    State.enter (s.setCtx c { s.ctx c with quietMarker := false }) c .quiet .peer
  else s

/-- An incoming QUIET-REFUSE (R35, R42). -/
def incomingQuietRefuse (k : Byte) (c : CircuitId) (s : State) : State :=
  if (s.ctx c).isCurrent k ∧ (s.ctx c).state = .quieting then
    State.enter
      (s.setCtx c
        { s.ctx c with
          quietMarker := false, holdoff := some s.port.parameters.quietHoldoff, askSinceRefusal := false })
      c .connected .quietRefused
  else s

/-- An incoming WAKE; in NAP-ASKING the ask is abandoned (R35, R46, R149). -/
def incomingWake (k : Byte) (c : CircuitId) (s : State) : State :=
  if (s.ctx c).isCurrent k ∧ (s.ctx c).state = .quiet then
    (s.enter c .connected .peer).abandonNapAsk .peer
  else s

/-! ## The Buffer Manager's cells -/

/-- The states in which a CREDIT for the current call is taken (R71). -/
def CircuitState.takesCredit : CircuitState → Bool
  | .connected | .quieting | .quiet | .waking | .releasing => true
  | .idle | .dialing | .ringing | .barred | .failed => false

/-- An incoming CREDIT (R71). -/
def incomingCredit (k count : Byte) (c : CircuitId) (s : State) : State :=
  if (s.ctx c).isCurrent k && (s.ctx c).state.takesCredit then
    if (count - (s.ctx c).sentCount).toNat ≤ Config.creditLimit then
      s.setCtx c { s.ctx c with creditLimit := count }
    else s.countBadWord
  else s

/-- A data cell is accepted into the receive queue (R62). -/
def State.acceptData (s : State) (c : CircuitId) (payload : Payload) : State :=
  let y := s.cells c
  let s := s.setCells c { y with receiveQueue := y.receiveQueue ++ [payload], reserved := y.reserved - 1 }
  let s := s.setCtx c { s.ctx c with receivedCount := (s.ctx c).receivedCount + 1 }
  s.report (.arrived c)

/-- A data cell is discarded as stale (R64). -/
def State.discardStale (s : State) : State :=
  { s with pool := { s.pool with staleCells := addToCounter s.pool.staleCells 1 } }

/-- An overrun: the payload is dropped and counted, and the circuit fails (R29, R63). -/
def State.overrun (s : State) (c : CircuitId) : State :=
  let s := { s with pool := { s.pool with lostCells := addToCounter s.pool.lostCells 1 } }
  let s := s.closeDown c true
  let s := s.placeRequest c .hang false false
  (s.enter c .failed .overrun).abandonNapAsk .peer

/-- A data cell the Receive Checker accepted, against the circuit's state and reservation (R62). A WAKING circuit
has no row in the table, for none can be reached: its cell is discarded as stale (log 12). -/
def incomingData (payload : Payload) (c : CircuitId) (s : State) : State :=
  match (s.ctx c).state with
  | .connected | .quieting | .quiet =>
    if (s.cells c).reserved = 0 then s.overrun c else s.acceptData c payload
  | .releasing => if (s.cells c).reserved = 0 then s.discardStale else s.acceptData c payload
  | .idle | .dialing | .ringing | .waking | .barred | .failed => s.discardStale

end Sys2Proof.Machine
end

