-- ==== Sys2Proof/Machine/Receive.lean ====
section
/-!
DEFINITION. The Receive Checker (chapter Sequenced Transfer and the Retry Queue): frames that fail their check,
cells by their sequence number and by the trunk state, and the commands of cells.
-/

namespace Sys2Proof.Machine

/-- A signal is posted into the ACKNAK slot, in the place of an unsent one (R105). -/
def State.post (s : State) (x : AckNak) : State := { s with transmit := { s.transmit with ackNak := some x } }

/-- NAK(E − 1) is posted where the trunk is UP or NAP-ASKING and none is outstanding (R88, R92). -/
def State.postNak (s : State) : State :=
  if (s.link.state = .up ∨ s.link.state = .napAsking) ∧ ¬ s.checker.nakOutstanding then
    State.post { s with checker := { s.checker with nakOutstanding := true } } (.nak (s.checker.expected - 1))
  else s

/-- A check failure is counted in the window, and the counter compared with the threshold; the counter and the
mark are set before the Link Controller takes the cause (R88, R96; log 9). -/
def State.countError (s : State) : State :=
  let n := min (s.checker.errorCounter + 1) Config.byteLimit
  let s := s.report .trunkError
  if s.port.parameters.errorThreshold ≤ n then
    State.thresholdReached { s with checker := { s.checker with errorCounter := 0, thresholdReported := true } }
  else { s with checker := { s.checker with errorCounter := n } }

/-- A frame that fails its check: the three steps of R88 in their order (log 8). -/
def State.failCheck (s : State) : State :=
  let s := { s with checker := { s.checker with checkErrors := addToCounter s.checker.checkErrors 1 } }
  let s := if s.checker.errorWindow.isSome then s.countError else s
  s.postNak

/-- The three classes of a cell with a good check (R89). -/
inductive CellClass where
  | expected | ahead | behind
  deriving DecidableEq, Repr

/-- A cell's class by the distance of its sequence number from E (R89). -/
def classify (expected sequence : Byte) : CellClass :=
  let d := (sequence - expected).toNat
  if d = 0 then .expected else if d ≤ 127 then .ahead else .behind

/-- An expected cell is accepted, before its owner takes it (R90, steps 1 to 3). -/
def State.acceptCell (s : State) : State :=
  State.post
    { s with checker := { s.checker with expected := s.checker.expected + 1, nakOutstanding := false } }
    (.ack s.checker.expected)

/-- A cell is classified, and an expected one handed on (R89 to R92, R94). -/
def State.classified (s : State) (sequence : Byte) (owner : State → State) : State :=
  match classify s.checker.expected sequence with
  | .expected => owner s.acceptCell
  | .behind => s.post (.ack (s.checker.expected - 1))
  | .ahead => s.postNak

/-- An implicit rouse: ROUSE-OK is placed and the trunk enters UP with cause PEER; the frame is discarded
(R151). -/
def State.implicitRouse (s : State) : State := (s.answerLink .rouseOk).rouseToUp (some .peer)

/-- A cell with a good check, by the trunk state (R93, R151, R153). -/
def State.receiveCell (s : State) (sequence : Byte) (owner : State → State) : State :=
  match s.link.state with
  | .up | .napAsking | .retune => s.classified sequence owner
  | .nap => s.implicitRouse
  | .rousing => (s.rouseToUp s.link.cause).classified sequence owner
  | .down | .training | .closing | .fault => s

/-- A cell of a circuit; a circuit byte outside 0 to 7 makes the frame one that fails its check (R88;
log 13). -/
def State.cellCommand (s : State) (sequence circuit : Byte) (owner : CircuitId → State → State) : StepOutcome :=
  s.event fun s =>
    match circuitOf circuit with
    | some c => s.receiveCell sequence (owner c)
    | none => s.failCheck

/-! ## The cell commands, one definition each -/

/-- INCOMING_DATA_CELL (R62); a payload that is not 1 to 64 bytes makes the frame one that fails its check
(R88; log 13). -/
def execIncomingDataCell (sequence circuit : Byte) (payload : Payload) (s : State) : StepOutcome :=
  if payloadFits payload then s.cellCommand sequence circuit (incomingData payload)
  else s.event State.failCheck

/-- INCOMING_DIAL (R14, R18, R19). -/
def execIncomingDial (sequence circuit callNumber window : Byte) (s : State) : StepOutcome :=
  s.cellCommand sequence circuit (incomingDial callNumber window)

/-- INCOMING_ANSWER (R12, R20). -/
def execIncomingAnswer (sequence circuit callNumber window : Byte) (s : State) : StepOutcome :=
  s.cellCommand sequence circuit (incomingAnswer callNumber window)

/-- INCOMING_REJECT (R13). -/
def execIncomingReject (sequence circuit callNumber reason : Byte) (s : State) : StepOutcome :=
  s.cellCommand sequence circuit (incomingReject callNumber reason)

/-- INCOMING_HANG (R25, R26). -/
def execIncomingHang (sequence circuit callNumber : Byte) (s : State) : StepOutcome :=
  s.cellCommand sequence circuit (incomingHang callNumber)

/-- INCOMING_HANG_DONE (R27). -/
def execIncomingHangDone (sequence circuit callNumber : Byte) (s : State) : StepOutcome :=
  s.cellCommand sequence circuit (incomingHangDone callNumber)

/-- INCOMING_QUIET_ASK (R39). -/
def execIncomingQuietAsk (sequence circuit callNumber : Byte) (s : State) : StepOutcome :=
  s.cellCommand sequence circuit (incomingQuietAsk callNumber)

/-- INCOMING_QUIET_OK (R41). -/
def execIncomingQuietOk (sequence circuit callNumber : Byte) (s : State) : StepOutcome :=
  s.cellCommand sequence circuit (incomingQuietOk callNumber)

/-- INCOMING_QUIET_REFUSE (R42). -/
def execIncomingQuietRefuse (sequence circuit callNumber : Byte) (s : State) : StepOutcome :=
  s.cellCommand sequence circuit (incomingQuietRefuse callNumber)

/-- INCOMING_WAKE (R46). -/
def execIncomingWake (sequence circuit callNumber : Byte) (s : State) : StepOutcome :=
  s.cellCommand sequence circuit (incomingWake callNumber)

/-- INCOMING_CREDIT (R71). -/
def execIncomingCredit (sequence circuit callNumber count : Byte) (s : State) : StepOutcome :=
  s.cellCommand sequence circuit (incomingCredit callNumber count)

/-- FRAME_FAILS_CHECK (R88). -/
def execFrameFailsCheck (s : State) : StepOutcome := s.event State.failCheck

end Sys2Proof.Machine
end

