-- ==== Sys2Proof/Machine/LinkSignals.lean ====
section
/-!
DEFINITION. The link signals, as the Link Controller and the Retry Unit take them by the trunk state (chapters
Trunk States, Nap and Rouse, Sequenced Transfer and the Retry Queue).
-/

namespace Sys2Proof.Machine

/-! ## ACK and NAK (R79, R80, R93) -/

/-- An ACK taken by the Retry Unit (R79). -/
def State.takeAck (s : State) (n : Byte) : State :=
  match s.retry.find n with
  | some i => s.acknowledge (i + 1)
  | none => s.countStray

/-- The number just before the oldest outstanding one: the head's, or with the queue empty the next, less one
(R80). -/
def RetryUnit.beforeHead (r : RetryUnit) : Byte :=
  match r.entries with
  | e :: _ => e.sequence - 1
  | [] => r.nextSequence - 1

/-- A NAK in range, once its removals are made: a replay begins where entries remain (R80). -/
def State.replayIfAny (s : State) : State := if s.retry.entries.isEmpty then s else s.beginReplay

/-- A NAK taken by the Retry Unit (R80). -/
def State.takeNak (s : State) (n : Byte) : State :=
  match s.retry.find n with
  | some i => (s.acknowledge (i + 1)).replayIfAny
  | none => if n = s.retry.beforeHead then s.replayIfAny else s.countStray

/-- An ACK or NAK with a good check, by the trunk state (R82, R93, R151, R153). -/
def State.receiveAckNak (s : State) (owner : State → State) : State :=
  match s.link.state with
  | .up | .napAsking | .retune => owner s
  | .nap => s.implicitRouse
  | .rousing => owner (s.rouseToUp s.link.cause)
  | .down | .training | .closing | .fault => s

/-! ## Training (R121 to R126) -/

/-- What is wrong with a HELLO, its side first (R123). -/
def State.helloFault (s : State) (side version circuits capacity : Byte) : Option TrunkCause :=
  if side = sideCode s.port.side then some .sideClash
  else if version = Config.trunkVersion ∧ circuits = Config.circuitCount ∧ capacity = Config.helloCapacity then none
  else some .version

/-- The peer is heard in TRAINING: the standing HELLO becomes READY (R123). -/
def State.switchToReady (s : State) : State :=
  match s.transmit.linkSlot.standing with
  | some (.hello ..) => s.stand .ready
  | _ => s

/-- A HELLO in TRAINING (R123). -/
def State.helloInTraining (s : State) (side version circuits capacity : Byte) : State :=
  match s.helloFault side version circuits capacity with
  | some cause => s.enterFault cause
  | none => (State.switchToReady { s with link := { s.link with peerHeard := true } }).finishTraining

/-- A HELLO in DOWN, or in FAULT after the hold: the peer is calling, and is followed with AUTO-FOLLOW 1
(R121, R138). -/
def State.peerCalls (s : State) (side version circuits capacity : Byte) : State :=
  let s := State.report { s with link := { s.link with peerCalling := true } } .trunkState
  if s.port.parameters.autoFollow = 0 then s
  else
    match s.helloFault side version circuits capacity with
    | some cause => s.enterFault cause
    | none => s.enterTraining .peer true

/-- A HELLO, by the trunk state (R121, R123, R134, R136, R137). -/
def State.takeHello (s : State) (side version circuits capacity : Byte) : State :=
  match s.link.state with
  | .down => s.peerCalls side version circuits capacity
  | .fault => if s.link.holdElapsed then s.peerCalls side version circuits capacity else s
  | .training => s.helloInTraining side version circuits capacity
  | .up | .retune | .napAsking | .nap | .rousing | .closing => s.enterFault .peerRestart

/-- The echo of a READY or TUNE-OK taken in UP, once (R126). -/
def State.echoOnce (s : State) (x : LinkSignal) : State :=
  if s.link.echo then s
  else State.answerLink { s with link := { s.link with echo := true } } x

/-- A READY, by the trunk state (R123, R126, R151). -/
def State.takeReady (s : State) : State :=
  match s.link.state with
  | .training =>
    (State.switchToReady { s with link := { s.link with peerHeard := true, peerReady := true } }).finishTraining
  | .up => s.echoOnce .ready
  | .nap => s.implicitRouse
  | .down | .retune | .napAsking | .rousing | .closing | .fault => s

/-! ## Retune (R127, R129) -/

/-- A TUNE in RETUNE: TUNE-OK stands, due at once (R129). -/
def State.tuneInRetune (s : State) : State :=
  let s := { s with link := { s.link with tuneHeard := true } }
  match s.transmit.linkSlot.standing with
  | some .tune => s.stand .tuneOk
  | _ => { s with transmit := { s.transmit with linkSlot := { s.transmit.linkSlot with due := true } } }

/-- A TUNE, by the trunk state (R127, R129, R140, R151, R153). -/
def State.takeTune (s : State) : State :=
  match s.link.state with
  | .up | .napAsking | .rousing => s.retuneCause .peer true
  | .retune => s.tuneInRetune
  | .nap => s.implicitRouse
  | .down | .training | .closing | .fault => s

/-- A TUNE-OK in RETUNE (R129). -/
def State.tuneOkInRetune (s : State) : State :=
  let s := { s with link := { s.link with tuneHeard := true, tuneOkReceived := true } }
  let s :=
    match s.transmit.linkSlot.standing with
    | some .tune => s.stand .tuneOk
    | _ => s
  if s.link.tuneOkSent then s.returnFromRetune else s

/-- A TUNE-OK, by the trunk state (R126, R129, R148, R151). -/
def State.takeTuneOk (s : State) : State :=
  match s.link.state with
  | .up => s.echoOnce .tuneOk
  | .retune => s.tuneOkInRetune
  | .nap => s.implicitRouse
  | .down | .training | .napAsking | .rousing | .closing | .fault => s

/-! ## Nap and rouse (R146, R148, R151, R153, R155) -/

/-- NAP-OK is placed as the answer and the nap granted mark set (R146, R148). -/
def State.grantNap (s : State) : State :=
  State.answerLink { s with link := { s.link with napGranted := true } } .napOk

/-- A NAP-ASK, by the trunk state (R146, R148, R151, R153, R155). -/
def State.takeNapAsk (s : State) : State :=
  match s.link.state with
  | .up =>
    if s.link.napGranted then s else if s.napTest then s.grantNap else s.answerLink .napRefuse
  | .napAsking => if s.link.napGranted then s else s.grantNap
  | .nap => s.answerLink .napOk
  | .down | .training | .retune | .rousing | .closing | .fault => s

/-- A NAP-OK, by the trunk state (R148, R155). -/
def State.takeNapOk (s : State) : State :=
  if s.link.state = .napAsking then s.enterNap s.link.cause else s

/-- A NAP-REFUSE, by the trunk state (R148, R155). -/
def State.takeNapRefuse (s : State) : State :=
  if s.link.state = .napAsking then s.enterUp (some .napRefused) else s

/-- A ROUSE, by the trunk state (R148, R151, R153, R155). -/
def State.takeRouse (s : State) : State :=
  match s.link.state with
  | .up => s.answerLink .rouseOk
  | .napAsking => (s.answerLink .rouseOk).enterUp (some .peer)
  | .nap => (s.answerLink .rouseOk).rouseToUp (some .peer)
  | .rousing => (s.answerLink .rouseOk).rouseToUp s.link.cause
  | .down | .training | .retune | .closing | .fault => s

/-- A ROUSE-OK, by the trunk state (R153, R155). -/
def State.takeRouseOk (s : State) : State :=
  if s.link.state = .rousing then s.rouseToUp s.link.cause else s

/-! ## Close and fault (R134 to R137) -/

/-- A DOWN, by the trunk state (R134, R135). -/
def State.takeDown (s : State) : State :=
  match s.link.state with
  | .up | .retune | .napAsking | .nap | .rousing => s.closedByPeer
  | .closing => (s.answerLink .downOk).enterDown .host
  | .down | .training | .fault => s

/-- A DOWN-OK, by the trunk state (R134). -/
def State.takeDownOk (s : State) : State := if s.link.state = .closing then s.enterDown .host else s

/-- A FAULT, by the trunk state (R123, R134, R136, R137). -/
def State.takeFault (s : State) : State :=
  match s.link.state with
  | .training | .up | .retune | .napAsking | .nap | .rousing | .closing => s.enterFault .peerFault
  | .down | .fault => s

/-! ## The link signal commands, one definition each -/

/-- HELLO_RECEIVED; a side byte that is no side makes the frame one that fails its check (R194; log 13). -/
def execHelloReceived (side version circuits capacity : Byte) (s : State) : StepOutcome :=
  if isSideCode side then s.event fun s => s.takeHello side version circuits capacity
  else s.event State.failCheck

/-- READY_RECEIVED (R123, R126). -/
def execReadyReceived (s : State) : StepOutcome := s.event State.takeReady

/-- ACK_RECEIVED (R79). -/
def execAckReceived (n : Byte) (s : State) : StepOutcome := s.event fun s => s.receiveAckNak fun s => s.takeAck n

/-- NAK_RECEIVED (R80). -/
def execNakReceived (n : Byte) (s : State) : StepOutcome := s.event fun s => s.receiveAckNak fun s => s.takeNak n

/-- TUNE_RECEIVED (R127, R129). -/
def execTuneReceived (s : State) : StepOutcome := s.event State.takeTune

/-- TUNE_OK_RECEIVED (R126, R129). -/
def execTuneOkReceived (s : State) : StepOutcome := s.event State.takeTuneOk

/-- NAP_ASK_RECEIVED (R146, R148). -/
def execNapAskReceived (s : State) : StepOutcome := s.event State.takeNapAsk

/-- NAP_OK_RECEIVED (R148). -/
def execNapOkReceived (s : State) : StepOutcome := s.event State.takeNapOk

/-- NAP_REFUSE_RECEIVED (R148). -/
def execNapRefuseReceived (s : State) : StepOutcome := s.event State.takeNapRefuse

/-- ROUSE_RECEIVED (R151, R153). -/
def execRouseReceived (s : State) : StepOutcome := s.event State.takeRouse

/-- ROUSE_OK_RECEIVED (R153). -/
def execRouseOkReceived (s : State) : StepOutcome := s.event State.takeRouseOk

/-- DOWN_RECEIVED (R134, R135). -/
def execDownReceived (s : State) : StepOutcome := s.event State.takeDown

/-- DOWN_OK_RECEIVED (R134). -/
def execDownOkReceived (s : State) : StepOutcome := s.event State.takeDownOk

/-- FAULT_RECEIVED; the cause byte is not read (R136, R194). -/
def execFaultReceived (_cause : Byte) (s : State) : StepOutcome := s.event State.takeFault

/-! ## Completion on the wire (R108, R124, R129, R147) -/

/-- A copy of READY has completed (R124). -/
def State.readySent (s : State) : State :=
  if s.link.state = .training then
    State.finishTraining { s with link := { s.link with readySent := true } }
  else s

/-- A copy of TUNE-OK has completed (R129). -/
def State.tuneOkSent (s : State) : State :=
  if s.link.state = .retune then
    let s := { s with link := { s.link with tuneOkSent := true } }
    if s.link.tuneOkReceived then s.returnFromRetune else s
  else s

/-- A NAP-OK has departed (R147). -/
def State.napOkDeparted (s : State) : State :=
  if s.link.napGranted then
    match s.link.state with
    | .up =>
      if s.napTest then s.enterNap (some .peer) else { s with link := { s.link with napGranted := false } }
    | .napAsking => s.enterNap s.link.cause
    | .down | .training | .retune | .nap | .rousing | .closing | .fault => s
  else s

/-- The Link Controller takes the report of a completed link signal (R108). -/
def State.signalSent (s : State) (x : LinkSignal) : State :=
  match x with
  | .ready => s.readySent
  | .tuneOk => s.tuneOkSent
  | .napOk => s.napOkDeparted
  | .hello .. | .ack _ | .nak _ | .tune | .napAsk | .napRefuse | .rouse | .rouseOk | .down | .downOk | .fault _ => s

/-- The frame on the wire completes: the transmitter is idle, and a link signal is reported (R108). -/
def State.frameCompletes (s : State) : State :=
  match s.transmit.wire with
  | none => s
  | some w =>
    let s := { s with transmit := { s.transmit with wire := none } }
    match w.frame with
    | .signal x => s.signalSent x
    | .data .. | .control .. => s

/-- TRUNK_FRAME_COMPLETE (R108). -/
def execTrunkFrameComplete (s : State) : StepOutcome := s.event State.frameCompletes

end Sys2Proof.Machine
end

