-- ==== Sys2Proof/Machine/Starts.lean ====
section
/-!
DEFINITION. Starting and holding the part (chapter The Host Port, section 9.5).
-/

namespace Sys2Proof.Machine

/-- A start: every block takes its power-on values, and the straps are sampled (R189, R195). -/
def State.start (s : State) (straps : Straps) (cause : StartCause) : State :=
  State.atStart (sideOfStraps straps) (speedOfStraps straps) cause s.pending

/-- RESTART_START: once the RESTART reply has left HTX, the part starts with cause REQUEST (R191; log 17); before that
nothing changes (log 4). -/
def execRestartStart (straps : Straps) (s : State) : StepOutcome :=
  .next (if s.isRunning ∧ s.port.restart = .replyLeft then s.start straps .request else s)

/-- POWER_ON: the part starts with cause POWER, or with the RESET pin low waits for it (R188; log 15). -/
def execPowerOn (straps : Straps) (s : State) : StepOutcome :=
  .next
    (if s.isRunning then s.start straps .power
     else { State.atStart s.port.side s.port.speed .power s.pending with power := .heldSincePower })

/-- A context with its timers stopped. -/
def Context.stopTimers (x : Context) : Context := { x with timer := .stopped, holdoff := none }

/-- The part is held: no timer runs, HTX is idle and the reply that was leaving is cut off with those behind it, the
trunk pair is silent, ATTN is low, nothing is received; the rest stays until the start (R188, R195; log 14). -/
def State.hold (s : State) : State :=
  { s with
    power := .held
    circuits := s.circuits.map Context.stopTimers
    retry := { s.retry with replayTimer := none }
    checker := { s.checker with errorWindow := none }
    transmit := { s.transmit with wire := none }
    link := { s.link with repeatTimer := none, stateTimer := none }
    notices := { s.notices with attn := false }
    port := { s.port with framer := .hunting, replies := [] } }

/-- RESET_PIN_LOW (R188, R195); with the pin already low nothing changes (log 4). -/
def execResetPinLow (s : State) : StepOutcome := .next (if s.isRunning then s.hold else s)

/-- RESET_PIN_HIGH: the part starts, with cause POWER where it has not started since power came, else with cause
PIN (R188); with the pin already high nothing changes (log 4). -/
def execResetPinHigh (straps : Straps) (s : State) : StepOutcome :=
  .next
    (match s.power with
     | .running => s
     | .heldSincePower => s.start straps .power
     | .held => s.start straps .pin)

end Sys2Proof.Machine
end

