-- ==== Sys2Proof/Machine/Timers.lean ====
section
/-!
DEFINITION. The expiry of each timer. An expiry of a timer that does not run changes nothing, for a stopped timer
does not expire (log 4).
-/

namespace Sys2Proof.Machine

/-! ## Circuit timers -/

/-- The dial timer of circuit `c` expires (R11). -/
def State.dialExpires (s : State) (c : CircuitId) : State :=
  match (s.ctx c).timer with
  | .dial _ => s.giveUpDial c .timeout
  | .stopped | .ring _ => s

/-- The ring timer of circuit `c` expires (R17). -/
def State.ringExpires (s : State) (c : CircuitId) : State :=
  match (s.ctx c).timer with
  | .ring _ => s.declineCall c reasonNoAnswer .noAnswer
  | .stopped | .dial _ => s

/-- The holdoff of circuit `c` expires (R42). -/
def State.holdoffExpires (s : State) (c : CircuitId) : State :=
  match (s.ctx c).holdoff with
  | some _ => s.setCtx c { s.ctx c with holdoff := none, askSinceRefusal := false }
  | none => s

/-! ## Retry Unit and Receive Checker -/

/-- The replay timer expires (R84). -/
def State.replayExpires (s : State) : State :=
  match s.retry.replayTimer with
  | some _ =>
    let n := s.retry.replayCounter + 1
    if n < s.port.parameters.replayLimit then
      State.beginReplay
        { s with
          retry := { s.retry with replayCounter := n, replayTimer := some s.port.parameters.ackTimeout } }
    else
      State.replayLimitReported { s with retry := { s.retry with replayCounter := n, replayTimer := none } }
  | none => s

/-- The error window closes (R95, R132). -/
def State.windowCloses (s : State) : State :=
  match s.checker.errorWindow with
  | some _ =>
    { s with
      link := { s.link with retuneCounter := if s.checker.thresholdReported then s.link.retuneCounter else 0 }
      checker :=
        { s.checker with
          errorCounter := 0, thresholdReported := false, errorWindow := some s.port.parameters.errorWindow } }
  | none => s

/-! ## Link Controller -/

/-- The repeat timer expires: the standing signal is due again (R106, R118). -/
def State.repeatExpires (s : State) : State :=
  match s.link.repeatTimer with
  | some _ =>
    { s with
      transmit := { s.transmit with linkSlot := { s.transmit.linkSlot with due := true } }
      link := { s.link with repeatTimer := some s.port.parameters.helloInterval } }
  | none => s

/-- Whether the state timer runs as a kind. -/
def LinkController.timerRuns (l : LinkController) (k : StateTimerKind) : Bool :=
  match l.stateTimer with
  | some t => t.kind == k
  | none => false

/-- The retune timer expires: the attempt restarts, or FAULT is entered at the limit (R131). -/
def State.retuneExpires (s : State) : State :=
  let s := { s with link := { s.link with retuneCounter := s.link.retuneCounter + 1 } }
  if s.port.parameters.retuneLimit ≤ s.link.retuneCounter then s.enterFault .retuneLimit
  else
    let s :=
      { s with
        link :=
          { s.link with
            tuneHeard := false, tuneOkReceived := false, tuneOkSent := false
            retunes := addToCounter s.link.retunes 1 } }
    let s := s.stand .tune
    let s := s.startTimer .retune s.port.parameters.retuneTimeout
    s.report .trunkError

/-- The fault hold ends (R138). -/
def State.holdEnds (s : State) : State :=
  let s := s.noStanding
  State.report { s with link := { s.link with holdElapsed := true, stateTimer := none } } .trunkState

/-! ## The expiry commands, one definition each -/

/-- DIAL_TIMER_EXPIRY (R11). -/
def execDialTimerExpiry (c : CircuitId) (s : State) : StepOutcome := s.event fun s => s.dialExpires c

/-- RING_TIMER_EXPIRY (R17). -/
def execRingTimerExpiry (c : CircuitId) (s : State) : StepOutcome := s.event fun s => s.ringExpires c

/-- HOLDOFF_EXPIRY (R42). -/
def execHoldoffExpiry (c : CircuitId) (s : State) : StepOutcome := s.event fun s => s.holdoffExpires c

/-- REPLAY_TIMER_EXPIRY (R84). -/
def execReplayTimerExpiry (s : State) : StepOutcome := s.event State.replayExpires

/-- ERROR_WINDOW_EXPIRY (R95). -/
def execErrorWindowExpiry (s : State) : StepOutcome := s.event State.windowCloses

/-- REPEAT_TIMER_EXPIRY (R118). -/
def execRepeatTimerExpiry (s : State) : StepOutcome := s.event State.repeatExpires

/-- TRAIN_TIMER_EXPIRY (R125). -/
def execTrainTimerExpiry (s : State) : StepOutcome :=
  s.event fun s => if s.link.timerRuns .train then s.enterDown .noPeer else s

/-- RETUNE_TIMER_EXPIRY (R131). -/
def execRetuneTimerExpiry (s : State) : StepOutcome :=
  s.event fun s => if s.link.timerRuns .retune then s.retuneExpires else s

/-- CLOSE_TIMER_EXPIRY (R134). -/
def execCloseTimerExpiry (s : State) : StepOutcome :=
  s.event fun s => if s.link.timerRuns .close then s.enterDown .closeTimeout else s

/-- FAULT_HOLD_EXPIRY (R138). -/
def execFaultHoldExpiry (s : State) : StepOutcome :=
  s.event fun s => if s.link.timerRuns .faultHold then s.holdEnds else s

/-- NAP_ASK_TIMER_EXPIRY (R148). -/
def execNapAskTimerExpiry (s : State) : StepOutcome :=
  s.event fun s => if s.link.timerRuns .napAsk then s.enterUp (some .napTimeout) else s

/-- ROUSE_TIMER_EXPIRY (R153). -/
def execRouseTimerExpiry (s : State) : StepOutcome :=
  s.event fun s => if s.link.timerRuns .rouse then s.retuneCause .rouseTimeout false else s

end Sys2Proof.Machine
end

