-- ==== Sys2Proof/Machine/Dispatch.lean ====
section
/-! DEFINITION. The meaning of each command: one arm for each row of spec/opcode_table.json. -/

namespace Sys2Proof.Machine

def exec (i : Instr) (s : State) : Host.Outcome State Fault Refusal :=
  match i with
  | .trunkUp tag body => Sys2Proof.Machine.execTrunkUp tag body s
  | .trunkDown tag body => Sys2Proof.Machine.execTrunkDown tag body s
  | .retune tag body => Sys2Proof.Machine.execRetune tag body s
  | .nap tag body => Sys2Proof.Machine.execNap tag body s
  | .rouse tag body => Sys2Proof.Machine.execRouse tag body s
  | .trunkStatus tag body => Sys2Proof.Machine.execTrunkStatus tag body s
  | .dial tag body => Sys2Proof.Machine.execDial tag body s
  | .accept tag body => Sys2Proof.Machine.execAccept tag body s
  | .refuse tag body => Sys2Proof.Machine.execRefuse tag body s
  | .hangup tag body => Sys2Proof.Machine.execHangup tag body s
  | .bar tag body => Sys2Proof.Machine.execBar tag body s
  | .unbar tag body => Sys2Proof.Machine.execUnbar tag body s
  | .quiet tag body => Sys2Proof.Machine.execQuiet tag body s
  | .wake tag body => Sys2Proof.Machine.execWake tag body s
  | .options tag body => Sys2Proof.Machine.execOptions tag body s
  | .circuitStatus tag body => Sys2Proof.Machine.execCircuitStatus tag body s
  | .send tag body => Sys2Proof.Machine.execSend tag body s
  | .fetch tag body => Sys2Proof.Machine.execFetch tag body s
  | .discard tag body => Sys2Proof.Machine.execDiscard tag body s
  | .poll tag body => Sys2Proof.Machine.execPoll tag body s
  | .mask tag body => Sys2Proof.Machine.execMask tag body s
  | .dismiss tag body => Sys2Proof.Machine.execDismiss tag body s
  | .ident tag body => Sys2Proof.Machine.execIdent tag body s
  | .set tag body => Sys2Proof.Machine.execSet tag body s
  | .get tag body => Sys2Proof.Machine.execGet tag body s
  | .counters tag body => Sys2Proof.Machine.execCounters tag body s
  | .restart tag body => Sys2Proof.Machine.execRestart tag body s
  | .unknownRequest kind tag body => Sys2Proof.Machine.execUnknownRequest kind tag body s
  | .hostByteReceived value stopBit => Sys2Proof.Machine.execHostByteReceived value stopBit s
  | .gapTimerExpiry => Sys2Proof.Machine.execGapTimerExpiry s
  | .replySent => Sys2Proof.Machine.execReplySent s
  | .restartStart straps => Sys2Proof.Machine.execRestartStart straps s
  | .powerOn straps => Sys2Proof.Machine.execPowerOn straps s
  | .resetPinLow => Sys2Proof.Machine.execResetPinLow s
  | .resetPinHigh straps => Sys2Proof.Machine.execResetPinHigh straps s
  | .incomingDataCell sequence circuit payload => Sys2Proof.Machine.execIncomingDataCell sequence circuit payload s
  | .incomingDial sequence circuit callNumber window => Sys2Proof.Machine.execIncomingDial sequence circuit callNumber window s
  | .incomingAnswer sequence circuit callNumber window => Sys2Proof.Machine.execIncomingAnswer sequence circuit callNumber window s
  | .incomingReject sequence circuit callNumber reason => Sys2Proof.Machine.execIncomingReject sequence circuit callNumber reason s
  | .incomingHang sequence circuit callNumber => Sys2Proof.Machine.execIncomingHang sequence circuit callNumber s
  | .incomingHangDone sequence circuit callNumber => Sys2Proof.Machine.execIncomingHangDone sequence circuit callNumber s
  | .incomingQuietAsk sequence circuit callNumber => Sys2Proof.Machine.execIncomingQuietAsk sequence circuit callNumber s
  | .incomingQuietOk sequence circuit callNumber => Sys2Proof.Machine.execIncomingQuietOk sequence circuit callNumber s
  | .incomingQuietRefuse sequence circuit callNumber => Sys2Proof.Machine.execIncomingQuietRefuse sequence circuit callNumber s
  | .incomingWake sequence circuit callNumber => Sys2Proof.Machine.execIncomingWake sequence circuit callNumber s
  | .incomingCredit sequence circuit callNumber count => Sys2Proof.Machine.execIncomingCredit sequence circuit callNumber count s
  | .helloReceived side version circuits capacity => Sys2Proof.Machine.execHelloReceived side version circuits capacity s
  | .readyReceived => Sys2Proof.Machine.execReadyReceived s
  | .ackReceived n => Sys2Proof.Machine.execAckReceived n s
  | .nakReceived n => Sys2Proof.Machine.execNakReceived n s
  | .tuneReceived => Sys2Proof.Machine.execTuneReceived s
  | .tuneOkReceived => Sys2Proof.Machine.execTuneOkReceived s
  | .napAskReceived => Sys2Proof.Machine.execNapAskReceived s
  | .napOkReceived => Sys2Proof.Machine.execNapOkReceived s
  | .napRefuseReceived => Sys2Proof.Machine.execNapRefuseReceived s
  | .rouseReceived => Sys2Proof.Machine.execRouseReceived s
  | .rouseOkReceived => Sys2Proof.Machine.execRouseOkReceived s
  | .downReceived => Sys2Proof.Machine.execDownReceived s
  | .downOkReceived => Sys2Proof.Machine.execDownOkReceived s
  | .faultReceived cause => Sys2Proof.Machine.execFaultReceived cause s
  | .frameFailsCheck => Sys2Proof.Machine.execFrameFailsCheck s
  | .trunkFrameComplete => Sys2Proof.Machine.execTrunkFrameComplete s
  | .dialTimerExpiry circuit => Sys2Proof.Machine.execDialTimerExpiry circuit s
  | .ringTimerExpiry circuit => Sys2Proof.Machine.execRingTimerExpiry circuit s
  | .holdoffExpiry circuit => Sys2Proof.Machine.execHoldoffExpiry circuit s
  | .replayTimerExpiry => Sys2Proof.Machine.execReplayTimerExpiry s
  | .errorWindowExpiry => Sys2Proof.Machine.execErrorWindowExpiry s
  | .repeatTimerExpiry => Sys2Proof.Machine.execRepeatTimerExpiry s
  | .trainTimerExpiry => Sys2Proof.Machine.execTrainTimerExpiry s
  | .retuneTimerExpiry => Sys2Proof.Machine.execRetuneTimerExpiry s
  | .closeTimerExpiry => Sys2Proof.Machine.execCloseTimerExpiry s
  | .faultHoldExpiry => Sys2Proof.Machine.execFaultHoldExpiry s
  | .napAskTimerExpiry => Sys2Proof.Machine.execNapAskTimerExpiry s
  | .rouseTimerExpiry => Sys2Proof.Machine.execRouseTimerExpiry s

end Sys2Proof.Machine
end

