-- ==== Sys2Proof/Machine/Outputs.lean ====
section
/-!
DEFINITION. What the part drives on its pins, read from its state: HTX and the trunk pair (section 10.6). ATTN is the
field `notices.attn` (R163).
-/

namespace Sys2Proof.Machine

/-- The frame of a reply: its status code as KIND, its request's TAG, its body, with the LENGTH and CHECK of its own
(R180, section 10.2). -/
def Reply.frameBytes (r : Reply) : List Byte := hostFrameBytes (statusCode r.status) r.tag r.body

/-- The frame leaving on HTX: that of the head of the reply queue; none where the line is idle, which is high: no reply
stands in the queue, or the part is held (R180, R188, R195; log 19). -/
def State.htx (s : State) : Option (List Byte) :=
  if s.isRunning then s.port.replies.head?.map Reply.frameBytes else none

/-- The frame leaving on the trunk pair: the one in transmission; none where the pair carries no frame of this part: the
transmitter is idle, or the part is held and the pair silent (R108, R188, R195; log 19). -/
def State.trunkPair (s : State) : Option (List Byte) :=
  if s.isRunning then s.transmit.wire.map fun w => trunkFrameBytes w.frame else none

end Sys2Proof.Machine
end

