-- ==== Sys2Proof/WellFormed.lean ====
section
/-!
DEFINITION. Which commands can reach the part: those whose operands a frame of either line can carry. `exec`
has a meaning for the others too (log 13).
-/

namespace Sys2Proof

/-- A BODY that a host frame can carry (R174, section 10.2). -/
def bodyFits (body : List Byte) : Bool := decide (body.length ≤ Config.bodyMax)

/-- Whether the command's operands are ones that a frame of either line can carry. -/
def wellFormed : Instr → Bool
  | .trunkUp _ body | .trunkDown _ body | .retune _ body | .nap _ body | .rouse _ body | .trunkStatus _ body
  | .dial _ body | .accept _ body | .refuse _ body | .hangup _ body | .bar _ body | .unbar _ body
  | .quiet _ body | .wake _ body | .options _ body | .circuitStatus _ body
  | .send _ body | .fetch _ body | .discard _ body | .poll _ body | .mask _ body | .dismiss _ body
  | .ident _ body | .set _ body | .get _ body | .counters _ body | .restart _ body => bodyFits body
  | .unknownRequest kind _ body => (requestKindOf kind).isNone && bodyFits body
  | .incomingDataCell _ circuit payload => (circuitOf circuit).isSome && payloadFits payload
  | .incomingDial _ circuit _ _ | .incomingAnswer _ circuit _ _ | .incomingReject _ circuit _ _
  | .incomingHang _ circuit _ | .incomingHangDone _ circuit _ | .incomingQuietAsk _ circuit _
  | .incomingQuietOk _ circuit _ | .incomingQuietRefuse _ circuit _ | .incomingWake _ circuit _
  | .incomingCredit _ circuit _ _ => (circuitOf circuit).isSome
  | .helloReceived side _ _ _ => isSideCode side
  | .hostByteReceived .. | .gapTimerExpiry | .replySent | .restartStart _ | .powerOn _ | .resetPinLow
  | .resetPinHigh _ | .readyReceived | .ackReceived _ | .nakReceived _ | .tuneReceived | .tuneOkReceived
  | .napAskReceived | .napOkReceived | .napRefuseReceived | .rouseReceived | .rouseOkReceived | .downReceived
  | .downOkReceived | .faultReceived _ | .frameFailsCheck | .trunkFrameComplete | .dialTimerExpiry _
  | .ringTimerExpiry _ | .holdoffExpiry _ | .replayTimerExpiry | .errorWindowExpiry | .repeatTimerExpiry
  | .trainTimerExpiry | .retuneTimerExpiry | .closeTimerExpiry | .faultHoldExpiry | .napAskTimerExpiry
  | .rouseTimerExpiry => true

end Sys2Proof
end

