-- ==== Sys2Proof/Safety.lean ====
section
/-!
DEFINITION. The words the statements are made in: which row a command is of, a part ready to take a request, the
codes and lengths of request bodies, the feeding of bytes, and the laws that every step keeps.
-/

namespace Sys2Proof.Machine

/-! ## Kinds of command -/

/-- The request frame a request row stands for (R177; log 5). -/
def requestFrame : Instr → Option HostFrame
  | .trunkUp tag body => some ⟨0x01, tag, body⟩
  | .trunkDown tag body => some ⟨0x02, tag, body⟩
  | .retune tag body => some ⟨0x03, tag, body⟩
  | .nap tag body => some ⟨0x04, tag, body⟩
  | .rouse tag body => some ⟨0x05, tag, body⟩
  | .trunkStatus tag body => some ⟨0x06, tag, body⟩
  | .dial tag body => some ⟨0x10, tag, body⟩
  | .accept tag body => some ⟨0x11, tag, body⟩
  | .refuse tag body => some ⟨0x12, tag, body⟩
  | .hangup tag body => some ⟨0x13, tag, body⟩
  | .bar tag body => some ⟨0x14, tag, body⟩
  | .unbar tag body => some ⟨0x15, tag, body⟩
  | .quiet tag body => some ⟨0x16, tag, body⟩
  | .wake tag body => some ⟨0x17, tag, body⟩
  | .options tag body => some ⟨0x18, tag, body⟩
  | .circuitStatus tag body => some ⟨0x19, tag, body⟩
  | .send tag body => some ⟨0x20, tag, body⟩
  | .fetch tag body => some ⟨0x21, tag, body⟩
  | .discard tag body => some ⟨0x22, tag, body⟩
  | .poll tag body => some ⟨0x30, tag, body⟩
  | .mask tag body => some ⟨0x31, tag, body⟩
  | .dismiss tag body => some ⟨0x32, tag, body⟩
  | .ident tag body => some ⟨0x40, tag, body⟩
  | .set tag body => some ⟨0x41, tag, body⟩
  | .get tag body => some ⟨0x42, tag, body⟩
  | .counters tag body => some ⟨0x43, tag, body⟩
  | .restart tag body => some ⟨0x44, tag, body⟩
  | .unknownRequest kind tag body => some ⟨kind, tag, body⟩
  | _ => none

/-- The row of the request whose KIND, TAG and BODY these are (R179, section 10.5). -/
def requestRow (kind tag : Byte) (body : List Byte) : Instr :=
  match requestKindOf kind with
  | some .trunkUp => .trunkUp tag body
  | some .trunkDown => .trunkDown tag body
  | some .retune => .retune tag body
  | some .nap => .nap tag body
  | some .rouse => .rouse tag body
  | some .trunkStatus => .trunkStatus tag body
  | some .dial => .dial tag body
  | some .accept => .accept tag body
  | some .refuse => .refuse tag body
  | some .hangup => .hangup tag body
  | some .bar => .bar tag body
  | some .unbar => .unbar tag body
  | some .quiet => .quiet tag body
  | some .wake => .wake tag body
  | some .options => .options tag body
  | some .circuitStatus => .circuitStatus tag body
  | some .send => .send tag body
  | some .fetch => .fetch tag body
  | some .discard => .discard tag body
  | some .poll => .poll tag body
  | some .mask => .mask tag body
  | some .dismiss => .dismiss tag body
  | some .ident => .ident tag body
  | some .set => .set tag body
  | some .get => .get tag body
  | some .counters => .counters tag body
  | some .restart => .restart tag body
  | none => .unknownRequest kind tag body

/-- The body lengths a request kind accepts, as the table of R193 lists them. -/
def acceptsLength : RequestKind → Nat → Bool
  | .trunkUp, n | .trunkDown, n | .retune, n | .nap, n | .rouse, n | .trunkStatus, n | .poll, n | .ident, n
  | .restart, n => n == 0
  | .refuse, n | .hangup, n | .bar, n | .unbar, n | .quiet, n | .wake, n | .circuitStatus, n | .fetch, n | .get, n
  | .counters, n => n == 1
  | .discard, n | .dismiss, n => n == 2
  | .dial, n | .options, n | .mask, n | .set, n => n == 3
  | .accept, n => n == 1 || n == 2 || n == 3
  | .send, n => decide (1 ≤ n ∧ n ≤ 80)

/-- The requests that name a circuit, in the first byte of their body (R1, R193). -/
def namesCircuit : RequestKind → Bool
  | .dial | .accept | .refuse | .hangup | .bar | .unbar | .quiet | .wake | .options | .circuitStatus | .send | .fetch
  | .discard => true
  | .trunkUp | .trunkDown | .retune | .nap | .rouse | .trunkStatus | .poll | .mask | .dismiss | .ident | .set | .get
  | .counters | .restart => false

/-- The cell that a cell row brings: its sequence number, its circuit and what its owner does with it (R90). -/
def cellRow : Instr → Option (Byte × Byte × (CircuitId → State → State))
  | .incomingDataCell q c payload => if payloadFits payload then some (q, c, incomingData payload) else none
  | .incomingDial q c k w => some (q, c, incomingDial k w)
  | .incomingAnswer q c k w => some (q, c, incomingAnswer k w)
  | .incomingReject q c k r => some (q, c, incomingReject k r)
  | .incomingHang q c k => some (q, c, incomingHang k)
  | .incomingHangDone q c k => some (q, c, incomingHangDone k)
  | .incomingQuietAsk q c k => some (q, c, incomingQuietAsk k)
  | .incomingQuietOk q c k => some (q, c, incomingQuietOk k)
  | .incomingQuietRefuse q c k => some (q, c, incomingQuietRefuse k)
  | .incomingWake q c k => some (q, c, incomingWake k)
  | .incomingCredit q c k n => some (q, c, incomingCredit k n)
  | _ => none

/-- The rows that start the part (R188, R191). -/
def isStart : Instr → Bool
  | .powerOn _ | .resetPinHigh _ => true
  | _ => false

/-- Which state timer a parameter governs (R185). -/
def governs : Param → StateTimerKind → Bool
  | .retuneTimeout, .retune | .faultHold, .faultHold | .trainTimeout, .train | .napAskTimeout, .napAsk
  | .rouseTimeout, .rouse | .closeTimeout, .close => true
  | _, _ => false

/-! ## Requests and their replies -/

/-- A running part that takes the next request frame at once: nothing waits in the intake queue, the reply queue has
room and no RESTART waits (R178, R190). -/
abbrev PortReady (s : State) : Prop :=
  s.power = .running ∧ s.port.intake = [] ∧ s.port.replies.length < 4 ∧ s.port.restart = .none

/-- The state with one more built reply at the tail of the reply queue (R178). -/
def State.answered (s : State) (st : Status) (tag : Byte) (body : List Byte) : State :=
  { s with port := { s.port with replies := s.port.replies ++ [⟨st, tag, body⟩] } }

/-- The state in which the owner takes an accepted cell: E has gone up by one, ACK for it is posted, NAK-outstanding is
clear (R90, steps 1 to 3). -/
def State.accepting (s : State) : State :=
  { s with
    checker := { s.checker with expected := s.checker.expected + 1, nakOutstanding := false }
    transmit := { s.transmit with ackNak := some (.ack s.checker.expected) } }

/-- A running part that classifies cells, and a cell that it accepts for circuit `c` (R89, R93). -/
abbrev Accepts (s : State) (sequence circuit : Byte) (c : CircuitId) : Prop :=
  s.power = .running ∧ (s.link.state = .up ∨ s.link.state = .napAsking ∨ s.link.state = .retune)
    ∧ sequence = s.checker.expected ∧ circuitOf circuit = some c

/-- Bytes arriving on HRX one after another, each with its stop bit (R174). -/
def feed (s : State) : List Byte → StepOutcome
  | [] => .next s
  | b :: rest =>
    match exec (.hostByteReceived b true) s with
    | .next t => feed t rest
    | .fault r => .fault r
    | .refused r => .refused r

/-! ## Laws of the Cell Pool and of calls -/

/-- The cells of circuit `c` that are reserved-unused, held or send-queued (R51). -/
def State.cellsOf (s : State) (c : CircuitId) : Nat :=
  (s.cells c).reserved + (s.cells c).receiveQueue.length + (s.cells c).sendQueue.length

/-- Every cell of the pool is in exactly one of its five places (R51). -/
def PoolLaw (s : State) : Prop := s.pool.free + circuitSum s.cellsOf + dataCells s.retry.entries = 256

/-- The laws of one circuit's reservation, queues, credit and answer window (R2, R55, R56, R61, R69, R70). -/
def CircuitLaw (x : Context) (y : Cells) : Prop :=
  (x.state.isLive = true →
    x.window = some (y.reserved + y.receiveQueue.length)
      ∧ y.reserved + y.receiveQueue.length ≤ 32
      ∧ x.granted - x.receivedCount = count8 y.reserved)
  ∧ (x.state.isLive = false → y.reserved = 0 ∧ y.sendQueue = [])
  ∧ (x.state = .quieting ∨ x.state = .quiet → y.sendQueue = [])
  ∧ (x.state = .dialing → x.sentCount = 0 ∧ y.receiveQueue = [] ∧ y.sendQueue = [])
  ∧ 1 ≤ x.sendDepth ∧ x.sendDepth ≤ 32
  ∧ y.sendQueue.length ≤ x.sendDepth
  ∧ y.receiveQueue.length ≤ 32
  ∧ x.credit.toNat ≤ 32
  ∧ x.answerWindow ≤ 32

/-- The laws of calls hold for all eight circuits (R55, R56, R61, R69, R70). -/
def CallLaw (s : State) : Prop := ∀ c : CircuitId, CircuitLaw (s.ctx c) (s.cells c)

/-! ## Laws of the Host Port's queues -/

/-- The laws of the intake and the reply queue (R178, R180, R190): at most four frames and four replies; on a running
part frames wait only behind a full reply queue or a RESTART. -/
def PortLaw (s : State) : Prop :=
  s.port.intake.length ≤ 4
  ∧ s.port.replies.length ≤ 4
  ∧ (s.power = .running → s.port.intake = [] ∨ s.port.replies.length = 4 ∨ s.port.restart ≠ .none)

/-! ## Laws of the Retry Queue -/

/-- The sequence numbers run consecutively, modulo 256, from `n` (R76). -/
def consecutive (n : Byte) : List RetryEntry → Bool
  | [] => true
  | e :: rest => e.sequence == n && consecutive (n + 1) rest

/-- The laws of the Retry Queue (R74 to R77, R83): at most 48 entries, numbered up to one less than the next number,
the pointer at one of them; entries only in UP and RETUNE; the replay timer runs exactly in UP with entries. -/
def RetryLaw (s : State) : Prop :=
  s.retry.entries.length ≤ 48
  ∧ consecutive (s.retry.nextSequence - count8 s.retry.entries.length) s.retry.entries = true
  ∧ (∀ i, s.retry.replayPointer = some i → i < s.retry.entries.length)
  ∧ (s.link.state = .up ∨ s.link.state = .retune ∨ s.retry.entries = [])
  ∧ (s.power = .running →
      (s.retry.replayTimer.isSome = true ↔ s.link.state = .up ∧ s.retry.entries ≠ []))

/-! ## Laws of the Notice Unit -/

/-- The laws of the Notice Queue and ATTN (R158, R162, R163). -/
def NoticeLaw (s : State) : Prop :=
  s.notices.queue.length ≤ 16
  ∧ s.notices.queue.Nodup
  ∧ (∀ p : Pair,
      ((s.notices.record p).queued = true ↔ p ∈ s.notices.queue)
      ∧ (p ∈ s.notices.queue → 1 ≤ (s.notices.record p).unreported)
      ∧ (s.notices.record p).unreported ≤ 255
      ∧ ((s.notices.record p).mask = false → 0 < (s.notices.record p).unreported →
          p ∈ s.notices.queue ∨ s.notices.queue.length = 16))
  ∧ (s.power = .running → s.notices.attn = !s.notices.queue.isEmpty)
  ∧ s.notices.raised = []

/-! ## The napping laws -/

/-- The trunk state in which the state timer runs as a timer (R119, R143). -/
def timerState : StateTimerKind → TrunkState
  | .train => .training
  | .retune => .retune
  | .close => .closing
  | .faultHold => .fault
  | .napAsk => .napAsking
  | .rouse => .rousing

/-- The napping laws (R156), with what NAP-ASKING keeps (R110, R149) and the state timer's place (R119). -/
def NapLaw (s : State) : Prop :=
  (∀ t, s.link.stateTimer = some t → timerState t.kind = s.link.state)
  ∧ (s.link.state = .napAsking → s.retry.entries = [] ∧ ∀ c, (s.ctx c).state.mayNap = true)
  ∧ (s.link.state.isNapping = true →
      s.retry.entries = [] ∧ ∀ c, (s.ctx c).state.mayNap = true ∨ (s.ctx c).state = .waking)
  ∧ (∀ c, (s.ctx c).state = .waking → s.link.state.isNapping = true)

end Sys2Proof.Machine
end

