-- ==== Sys2Proof/Certificates/Slice0/Obligations.lean ====
section
/-!
DEFINITION. What is claimed of the part, for the provers. A result is written as the state the claim leaves, followed
by `State.settle`, the end of the claim, which `OccurrencesAreTakenInScanOrder` writes out: the Notice Unit takes the
claim's occurrences and an idle transmitter takes its next frame (`ArbiterOrder`). Everything such an equation does not
name is unchanged.
-/

open Sys2Proof Sys2Proof.Machine

/-! ## The machine -/

/-- A step runs the front command with the queue's rest; on an empty queue the part idles (the model's choice,
log 2). -/
def Obligations.StepRunsFrontCommand : Prop :=
  ∀ (s : State) (i : Instr) (rest : List Instr),
    (s.pending = i :: rest → step s = exec i { s with pending := rest })
    ∧ (s.pending = [] → step s = .next s)

/-- Every command completes in every state: no rule of the manual stops the part (read by inference, log 19). The
queue of waiting commands, which it leaves alone, is the model's own (log 2). -/
def Obligations.EveryCommandCompletes : Prop :=
  ∀ (i : Instr) (s : State), ∃ t : State, exec i s = .next t ∧ t.pending = s.pending

/-- What a start leaves in every block (R3, R51, R53, R74, R75, R87, R98, R99, R116, R142, R143, R173, R182, R186,
R189). That `State.reset` has side A and speed code 0 is the model's choice (log 1). -/
def Obligations.StartLeavesPowerOnValues : Prop :=
  (∀ (side : Side) (speed : LineSpeed) (cause : StartCause) (q : List Instr),
    let t := State.atStart side speed cause q
    (∀ c : CircuitId,
      t.ctx c =
        { state := .idle, callNumber := 0, role := none, window := none, sendDepth := 16, creditLimit := 0
          sentCount := 0, granted := 0, receivedCount := 0, quietMarker := false, holdoff := none
          askSinceRefusal := false, autoQuiet := false, answerWindow := 8, timer := .stopped
          refusedMarker := false, lastCause := none }
      ∧ t.cells c = { sendQueue := [], receiveQueue := [], reserved := 0 }
      ∧ t.slots c = { request := none, overflow := none, answer := none, credit := none })
    ∧ t.pool.free = 256 ∧ t.pool.lostCells = 0 ∧ t.pool.staleCells = 0 ∧ t.pool.badWords = 0
    ∧ t.retry =
        { entries := [], nextSequence := 0, replayPointer := none, replayTimer := none, replayCounter := 0
          replays := 0, straySignals := 0 }
    ∧ t.checker =
        { expected := 0, nakOutstanding := false, errorCounter := 0, errorWindow := none
          thresholdReported := false, checkErrors := 0 }
    ∧ t.transmit.ackNak = none ∧ t.transmit.linkSlot = { standing := none, due := false, answer := none }
    ∧ t.transmit.wire = none ∧ t.transmit.controlPointer = 7 ∧ t.transmit.dataPointer = 7
    ∧ t.link =
        { state := .down, cause := none, retuneCounter := 0, peerHeard := false, peerReady := false
          readySent := false, tuneHeard := false, tuneOkReceived := false, tuneOkSent := false, echo := false
          peerCalling := false, holdElapsed := false, napGranted := false, repeatTimer := none
          stateTimer := none, retunes := 0, faults := 0 }
    ∧ (∀ p : Pair, t.notices.record p = { latch := false, mask := false, unreported := 0, queued := false })
    ∧ t.notices.queue = [] ∧ t.notices.attn = false ∧ t.notices.raised = []
    ∧ t.port =
        { framer := .hunting, intake := [], replies := [], restart := .none
          parameters :=
            { ackTimeout := 2, replayLimit := 4, errorThreshold := 8, errorWindow := 100, retuneTimeout := 20
              retuneLimit := 3, faultHold := 50, trainTimeout := 100, helloInterval := 1, dialTimeout := 250
              ringTimeout := 200, quietHoldoff := 2, napAskTimeout := 5, rouseTimeout := 10, closeTimeout := 10
              autoFollow := 1 }
          frameErrors := 0, overruns := 0, side := side, speed := speed, startCause := cause, freshStart := true }
    ∧ t.power = .running ∧ t.pending = q)
  ∧ State.reset = State.atStart .a .baud115200 .power []

/-- How the part starts, with which cause, and the straps it samples (R188, R191, R195). What the state holds after
power comes to a held part is the model's choice (log 15). That RESET_PIN_HIGH on a running part, and RESTART_START
before the RESTART reply has left, change nothing is read by inference (log 4). -/
def Obligations.StartsSampleStrapsAndCause : Prop :=
  ∀ (s : State) (p : Straps),
    let started (cause : StartCause) : State :=
      State.atStart (if p.side = true then .b else .a)
        (match p.baud1, p.baud0 with
         | false, false => .baud115200
         | false, true => .baud460800
         | true, false => .baud921600
         | true, true => .baud3000000)
        cause s.pending
    (s.power = .running → exec (.powerOn p) s = .next (started .power))
    ∧ (s.power = .heldSincePower → exec (.resetPinHigh p) s = .next (started .power))
    ∧ (s.power = .held → exec (.resetPinHigh p) s = .next (started .pin))
    ∧ (s.power = .running → s.port.restart = .replyLeft → exec (.restartStart p) s = .next (started .request))
    ∧ (s.power ≠ .running →
      exec (.powerOn p) s = .next
        { State.atStart s.port.side s.port.speed .power s.pending with power := .heldSincePower })
    ∧ (s.power = .running → exec (.resetPinHigh p) s = .next s)
    ∧ (s.port.restart ≠ .replyLeft → exec (.restartStart p) s = .next s)

/-- The RESET pin low holds the part: no timer runs, HTX is idle, the trunk pair is silent, ATTN is low, and no byte,
frame or expiry does anything (R188, R195). That the replies behind the one cut off go with it, and that the rest stays
until the start, is the model's choice (log 14). -/
def Obligations.LowResetHoldsThePart : Prop :=
  (∀ s : State, s.power = .running →
    exec .resetPinLow s = .next
      { s with
        power := .held
        circuits := s.circuits.map fun x => { x with timer := .stopped, holdoff := none }
        retry := { s.retry with replayTimer := none }
        checker := { s.checker with errorWindow := none }
        transmit := { s.transmit with wire := none }
        link := { s.link with repeatTimer := none, stateTimer := none }
        notices := { s.notices with attn := false }
        port := { s.port with framer := .hunting, replies := [] } })
  ∧ (∀ s : State, s.power ≠ .running → s.htx = none ∧ s.trunkPair = none)
  ∧ (∀ (i : Instr) (s : State), s.power ≠ .running → isStart i = false → exec i s = .next s)

/-! ## The host line -/

/-- A good request frame waits while it may not be taken, and is an overrun with four frames waiting (R177,
R178, R190). -/
def Obligations.RequestsWaitOrOverrun : Prop :=
  ∀ (s : State) (i : Instr) (f : HostFrame), requestFrame i = some f → s.power = .running →
    (s.port.intake.length < 4 → (4 ≤ s.port.replies.length ∨ s.port.restart ≠ .none) →
      exec i s = .next { s with port := { s.port with intake := s.port.intake ++ [f] } })
    ∧ (4 ≤ s.port.intake.length →
      exec i s = .next
        (State.settle
          (State.report { s with port := { s.port with overruns := min (s.port.overruns + 1) 65535 } }
            .portError)))

/-- The Host Port's checks and the circuit check, in their order; each refusal changes nothing (R179, R1). -/
def Obligations.PortRefusesMalformedRequests : Prop :=
  ∀ (s : State) (i : Instr) (f : HostFrame), requestFrame i = some f → PortReady s →
    (requestKindOf f.kind = none → exec i s = .next (s.answered .unknown f.tag []).settle)
    ∧ (∀ k, requestKindOf f.kind = some k →
        (acceptsLength k f.body.length = false → exec i s = .next (s.answered .badLength f.tag []).settle)
        ∧ (acceptsLength k f.body.length = true → namesCircuit k = true → 8 ≤ (f.body.headD 0).toNat →
            exec i s = .next (s.answered .badCircuit f.tag []).settle))

/-- Every request that is taken gets exactly one reply with its tag, and a refusal has an empty body and changes
nothing, but that a SEND refused for want of room sets the refused marker of the circuit it names (R72, R181). -/
def Obligations.OneReplyForEachRequest : Prop :=
  ∀ (s : State) (i : Instr) (f : HostFrame), requestFrame i = some f → PortReady s →
    ∃ (t : State) (r : Reply), exec i s = .next t ∧ t.port.replies = s.port.replies ++ [r] ∧ r.tag = f.tag
      ∧ (r.status ≠ .ok →
          let noRoom : Prop := f.kind = 0x20 ∧ (r.status = .queueFull ∨ r.status = .noBuffer)
          r.body = []
          ∧ (¬ noRoom → t = (s.answered r.status f.tag []).settle)
          ∧ (noRoom →
              ∃ c : CircuitId, circuitOf (f.body.headD 0) = some c
                ∧ t = ((s.setCtx c { s.ctx c with refusedMarker := true }).answered r.status f.tag []).settle))

/-- The bytes of a request frame, arriving one after another at a framer that hunts, do what the request's row does
(R174, R177, R192). -/
def Obligations.HostBytesMakeTheRequest : Prop :=
  ∀ (s : State) (kind tag : Byte) (body : List Byte), s.power = .running → s.port.framer = .hunting →
    body.length ≤ 80 → feed s (hostFrameBytes kind tag body) = exec (requestRow kind tag body) s

/-- What the framer does with each byte, and the four discards of a host frame: its LENGTH, a stop bit, the gap, its
CHECK (R174, R175, R176). That the gap timer's expiry changes nothing at a hunting framer, where it does not run, is
read by inference (log 4). -/
def Obligations.FramerTakesAndDiscardsBytes : Prop :=
  (∀ (s : State) (b : Byte) (stop : Bool) (n : Byte) (bytes : List Byte), s.power = .running →
      let becomes (f : Framer) : StepOutcome := .next { s with port := { s.port with framer := f } }
      (s.port.framer = .hunting →
        exec (.hostByteReceived b stop) s = if b = 0xA5 ∧ stop = true then becomes .awaitingLength else .next s)
      ∧ (s.port.framer = .awaitingLength → 2 ≤ b.toNat → b.toNat ≤ 82 →
        exec (.hostByteReceived b true) s = becomes (.collecting b []))
      ∧ (s.port.framer = .collecting n bytes →
        exec (.hostByteReceived b true) s =
          if bytes.length + 1 < n.toNat then becomes (.collecting n (bytes ++ [b]))
          else becomes (.awaitingCheck n (bytes ++ [b]) none))
      ∧ (s.port.framer = .awaitingCheck n bytes none →
        exec (.hostByteReceived b true) s = becomes (.awaitingCheck n bytes (some b)))
      ∧ (s.port.framer = .hunting → exec .gapTimerExpiry s = .next s.settle))
  ∧ (∀ (s : State) (b n low : Byte) (bytes : List Byte), s.power = .running →
      let discarded : StepOutcome :=
        .next
          (State.settle
            (State.report
              { s with port := { s.port with framer := .hunting, frameErrors := min (s.port.frameErrors + 1) 65535 } }
              .portError))
      (s.port.framer = .awaitingLength → (b.toNat < 2 ∨ 82 < b.toNat) →
        exec (.hostByteReceived b true) s = discarded)
      ∧ (s.port.framer ≠ .hunting → exec (.hostByteReceived b false) s = discarded)
      ∧ (s.port.framer ≠ .hunting → exec .gapTimerExpiry s = discarded)
      ∧ (s.port.framer = .awaitingCheck n bytes (some low) → le16 (crc16 (n :: bytes)) ≠ [low, b] →
        exec (.hostByteReceived b true) s = discarded))

/-- A reply leaves: the waiting head frame is taken, or the RESTART reply was the last; RESTART itself is answered OK
and the part waits for that reply (R178, R180, R190). HTX carries the frame of the head reply, with the status codes of
section 10.5, and is idle without one. That REPLY_SENT with an empty reply queue changes nothing (log 4), and that the
part then waits in the stage replyLeft for RESTART_START (log 17), is read by inference. -/
def Obligations.RepliesLeaveAndRestartWaits : Prop :=
  (∀ (s : State) (r : Reply) (rest : List Reply), s.power = .running →
      (s.port.replies = [] → exec .replySent s = .next s)
      ∧ (s.port.replies = r :: rest → s.port.restart = .none → s.port.intake = [] →
          exec .replySent s = .next { s with port := { s.port with replies := rest } })
      ∧ (s.port.replies = r :: rest → s.port.restart = .none → rest.length = 3 →
          ∀ (f : HostFrame) (q : List HostFrame), s.port.intake = f :: q →
            exec .replySent s = .next
              (State.takeRequest { s with port := { s.port with replies := rest, intake := q } } f).settle)
      ∧ (s.port.replies = r :: rest → s.port.restart = .waiting →
          exec .replySent s = .next
            { s with
              port := { s.port with replies := rest, restart := if rest = [] then .replyLeft else .waiting } }))
  ∧ (∀ s : State, s.power = .running →
      (s.port.replies = [] → s.htx = none)
      ∧ (∀ (r : Reply) (rest : List Reply), s.port.replies = r :: rest →
          let code : Byte :=
            match r.status with
            | .ok => 0x00 | .unknown => 0x01 | .badLength => 0x02 | .badCircuit => 0x03 | .badValue => 0x04
            | .badState => 0x05 | .notUp => 0x06 | .napping => 0x07 | .noBuffer => 0x08 | .queueFull => 0x09
            | .empty => 0x0A | .unread => 0x0B | .holdoff => 0x0C | .notQuiet => 0x0D | .unacked => 0x0E
            | .pendingNotice => 0x0F | .holding => 0x10 | .busy => 0x11
          let covered := count8 (r.body.length + 2) :: code :: r.tag :: r.body
          s.htx = some (0xA5 :: covered ++ le16 (crc16 covered))))
  ∧ (∀ (s : State) (tag : Byte), PortReady s →
      exec (.restart tag []) s = .next
        (State.answered { s with port := { s.port with restart := .waiting } } .ok tag []).settle)

/-- IDENT's reply byte by byte and the one change it makes; the ten counters in their order, cleared after the reply
with the flag 1 (R186, R187). -/
def Obligations.IdentAndCountersReply : Prop :=
  (∀ (s : State) (tag : Byte), PortReady s →
      exec (.ident tag []) s = .next
        (State.answered { s with port := { s.port with freshStart := false } } .ok tag
          [0x71, 0x0C, 0x08, 1, if s.port.side = .a then 0 else 1,
           match s.port.speed with
           | .baud115200 => 0
           | .baud460800 => 1
           | .baud921600 => 2
           | .baud3000000 => 3,
           1,
           match s.port.startCause with
           | .power => 0
           | .pin => 1
           | .request => 2,
           if s.port.freshStart = true then 1 else 0]).settle)
  ∧ (∀ (s : State) (tag flag : Byte), PortReady s →
      let reply :=
        [s.checker.checkErrors, s.retry.replays, s.link.retunes, s.link.faults, s.pool.staleCells, s.pool.lostCells,
          s.pool.badWords, s.retry.straySignals, s.port.frameErrors, s.port.overruns].flatMap count16
      (flag = 0 → exec (.counters tag [flag]) s = .next (s.answered .ok tag reply).settle)
      ∧ (flag = 1 →
          exec (.counters tag [flag]) s = .next
            (State.answered
              { s with
                checker := { s.checker with checkErrors := 0 }
                retry := { s.retry with replays := 0, straySignals := 0 }
                link := { s.link with retunes := 0, faults := 0 }
                pool := { s.pool with staleCells := 0, lostCells := 0, badWords := 0 }
                port := { s.port with frameErrors := 0, overruns := 0 } }
              .ok tag reply).settle)
      ∧ (flag ≠ 0 → flag ≠ 1 → exec (.counters tag [flag]) s = .next (s.answered .badValue tag []).settle))

/-- GET: the sixteen parameters by their numbers in the Parameter Table (R182, R183). -/
def Obligations.GetReadsOneParameter : Prop :=
  ∀ (s : State) (tag n : Byte), PortReady s →
    let t := s.port.parameters
    let values : List Nat :=
      [t.ackTimeout, t.replayLimit, t.errorThreshold, t.errorWindow, t.retuneTimeout, t.retuneLimit, t.faultHold,
        t.trainTimeout, t.helloInterval, t.dialTimeout, t.ringTimeout, t.quietHoldoff, t.napAskTimeout, t.rouseTimeout,
        t.closeTimeout, t.autoFollow]
    ((n.toNat < 1 ∨ 16 < n.toNat) → exec (.get tag [n]) s = .next (s.answered .badValue tag []).settle)
    ∧ (1 ≤ n.toNat → n.toNat ≤ 16 →
        exec (.get tag [n]) s = .next
          (s.answered .ok tag (n :: le16 (BitVec.ofNat 16 (values.getD (n.toNat - 1) 0)))).settle)

/-- SET: the numbers and ranges of the Parameter Table, the two checks and the reply; what a new value restarts is
`SetRestartsRunningTimers` (R182, R184). -/
def Obligations.SetWritesOneParameter : Prop :=
  ∀ (s : State) (tag n low high : Byte), PortReady s →
    let v := low.toNat + 256 * high.toNat
    let table : List (Param × Nat × Nat) :=
      [(.ackTimeout, 1, 50), (.replayLimit, 1, 15), (.errorThreshold, 1, 255), (.errorWindow, 10, 1000),
        (.retuneTimeout, 5, 200), (.retuneLimit, 1, 7), (.faultHold, 20, 1000), (.trainTimeout, 10, 5000),
        (.helloInterval, 1, 10), (.dialTimeout, 10, 10000), (.ringTimeout, 10, 10000), (.quietHoldoff, 1, 100),
        (.napAskTimeout, 1, 100), (.rouseTimeout, 1, 100), (.closeTimeout, 1, 100), (.autoFollow, 0, 1)]
    ((n.toNat < 1 ∨ 16 < n.toNat) →
      exec (.set tag [n, low, high]) s = .next (s.answered .badValue tag []).settle)
    ∧ (∀ (p : Param) (least greatest : Nat), 1 ≤ n.toNat → table[n.toNat - 1]? = some (p, least, greatest) →
        ((v < least ∨ greatest < v) →
          exec (.set tag [n, low, high]) s = .next (s.answered .badValue tag []).settle)
        ∧ (least ≤ v → v ≤ greatest →
          (v = s.port.parameters.get p →
            exec (.set tag [n, low, high]) s = .next (s.answered .ok tag [n, low, high]).settle)
          ∧ (v ≠ s.port.parameters.get p →
            exec (.set tag [n, low, high]) s = .next
              ((s.setParameter p v).answered .ok tag [n, low, high]).settle)))

/-- A parameter that changes is written, and restarts every running timer it governs with the new value, and only
those (R185). -/
def Obligations.SetRestartsRunningTimers : Prop :=
  ∀ (s : State) (p : Param) (v : Nat), s.port.parameters.get p ≠ v →
    s.setParameter p v =
      { s with
        port := { s.port with parameters := s.port.parameters.set p v }
        retry :=
          { s.retry with
            replayTimer := if p = .ackTimeout then s.retry.replayTimer.map fun _ => v else s.retry.replayTimer }
        checker :=
          { s.checker with
            errorWindow :=
              if p = .errorWindow then s.checker.errorWindow.map fun _ => v else s.checker.errorWindow }
        link :=
          { s.link with
            repeatTimer :=
              if p = .helloInterval then s.link.repeatTimer.map fun _ => v else s.link.repeatTimer
            stateTimer :=
              s.link.stateTimer.map fun t => if governs p t.kind = true then ⟨t.kind, v⟩ else t }
        circuits :=
          s.circuits.map fun x =>
            { x with
              timer :=
                match p, x.timer with
                | .dialTimeout, .dial _ => .dial v
                | .ringTimeout, .ring _ => .ring v
                | _, timer => timer
              holdoff := if p = .quietHoldoff then x.holdoff.map fun _ => v else x.holdoff } }
    ∧ (s.port.parameters.set p v).get p = v
    ∧ (∀ q : Param, q ≠ p → (s.port.parameters.set p v).get q = s.port.parameters.get q)
    ∧ ∀ t : ParameterTable,
        t.get p =
          match p with
          | .ackTimeout => t.ackTimeout
          | .replayLimit => t.replayLimit
          | .errorThreshold => t.errorThreshold
          | .errorWindow => t.errorWindow
          | .retuneTimeout => t.retuneTimeout
          | .retuneLimit => t.retuneLimit
          | .faultHold => t.faultHold
          | .trainTimeout => t.trainTimeout
          | .helloInterval => t.helloInterval
          | .dialTimeout => t.dialTimeout
          | .ringTimeout => t.ringTimeout
          | .quietHoldoff => t.quietHoldoff
          | .napAskTimeout => t.napAskTimeout
          | .rouseTimeout => t.rouseTimeout
          | .closeTimeout => t.closeTimeout
          | .autoFollow => t.autoFollow

/-- TRUNK-STATUS and CIRCUIT-STATUS: their 18 bytes, and nothing changes (R33, R141, section 10.2); the codes of states,
causes, roles, sides and timers, each the place of its name in its table (section 10.5). -/
def Obligations.StatusReplies : Prop :=
  (∀ (s : State) (tag : Byte) (c : CircuitId), PortReady s →
    let bit (b : Bool) (v : Byte) : Byte := if b = true then v else 0
    let x := s.ctx c
    let y := s.cells c
    let head := s.retry.entries.head?
    let under := s.retry.replayPointer.bind fun i => s.retry.entries[i]?
    exec (.circuitStatus tag [circuitByte c]) s = .next
      (s.answered .ok tag
        [circuitByte c, circuitStateCode x.state, (x.lastCause.map circuitCauseCode).getD 0xFF, x.callNumber,
         (x.role.map roleCode).getD 0xFF, count8 (x.window.getD 0), count8 x.sendDepth, x.creditLimit, x.sentCount,
         x.granted, x.receivedCount, x.creditLimit - x.sentCount, count8 y.sendQueue.length,
         count8 y.receiveQueue.length, count8 y.reserved, count8 x.answerWindow, circuitTimerCode x.timer,
         bit x.quietMarker 1 ||| bit x.holdoff.isSome 2 ||| bit x.askSinceRefusal 4 ||| bit x.autoQuiet 8
           ||| bit x.refusedMarker 16]).settle
    ∧ exec (.trunkStatus tag []) s = .next
      (s.answered .ok tag
        ([trunkStateCode s.link.state, (s.link.cause.map trunkCauseCode).getD 0xFF, sideCode s.port.side,
          count8 s.link.retuneCounter,
          bit s.link.peerCalling 1 ||| bit s.link.holdElapsed 2
            ||| bit (s.link.state = .training && s.link.peerHeard) 4
            ||| bit (s.link.state = .training && s.link.peerReady) 8
            ||| bit (s.link.state = .training && s.link.readySent) 16
            ||| bit (s.link.state = .retune && s.link.tuneHeard) 32
            ||| bit (s.link.state = .retune && s.link.tuneOkReceived) 64
            ||| bit (s.link.state = .retune && s.link.tuneOkSent) 128,
          (s.link.stateTimer.map fun t => stateTimerCode t.kind).getD 0, count8 s.retry.entries.length,
          bit head.isSome 1 ||| bit under.isSome 2, (head.map (·.sequence)).getD 0, s.retry.nextSequence,
          (under.map (·.sequence)).getD 0, count8 s.retry.replayCounter,
          (head.map fun e => count8 e.transmissions).getD 0, s.checker.expected,
          bit s.checker.nakOutstanding 1, count8 s.checker.errorCounter] ++ count16 s.pool.free)).settle)
  ∧ (∀ (x : CircuitState) (y : CircuitCause) (u : TrunkState) (w : TrunkCause) (ms : Nat) (z : StateTimerKind),
      [.idle, .dialing, .ringing, .connected, .quieting, .quiet, .waking, .releasing, .barred, .failed].idxOf x
          = (circuitStateCode x).toNat
      ∧ [.host, .peer, .crossed, .superseded, .timeout, .noAnswer, .refused, .barred, .held, .overrun, .quietRefused,
            .trunkLost, .trunkClosed].idxOf y
          = (circuitCauseCode y).toNat
      ∧ [.down, .training, .up, .retune, .napAsking, .nap, .rousing, .closing, .fault].idxOf u
          = (trunkStateCode u).toNat
      ∧ [.host, .peer, .noPeer, .sideClash, .version, .replayLimit, .errorThreshold, .retuneLimit, .peerFault,
            .peerRestart, .napRefused, .napTimeout, .rouseTimeout, .closeTimeout].idxOf w
          = (trunkCauseCode w).toNat
      ∧ [.train, .retune, .close, .faultHold, .napAsk, .rouse].idxOf z + 1 = (stateTimerCode z).toNat
      ∧ [roleCode .caller, roleCode .callee] = [0, 1]
      ∧ [sideCode .a, sideCode .b] = [0, 1]
      ∧ [circuitTimerCode .stopped, circuitTimerCode (.dial ms), circuitTimerCode (.ring ms)] = [0, 1, 2])

/-! ## Circuits -/

/-- The shared operations of a circuit: a change of state records its cause and reports one occurrence (R4), cells
that return to the pool are one freeing event (R52, R72), a call is closed down (R8). -/
def Obligations.CircuitOperations : Prop :=
  ∀ (s : State) (c : CircuitId) (st : CircuitState) (cause : CircuitCause) (n : Nat) (keepRole : Bool),
    let x := s.ctx c
    let y := s.cells c
    s.enter c st cause = (s.setCtx c { x with state := st, lastCause := some cause }).report (.state c)
    ∧ s.releaseCells 0 = s
    ∧ (0 < n → s.releaseCells n =
        { s with
          pool := { s.pool with free := s.pool.free + n }
          circuits := s.circuits.map fun x => { x with refusedMarker := false }
          notices :=
            { s.notices with
              raised := s.notices.raised ++ (circuitIds.filter fun d => (s.ctx d).refusedMarker).map Pair.room } })
    ∧ s.closeDown c keepRole =
        let u :=
          State.releaseCells
            { s with
              pool :=
                { s.pool with
                  lostCells := min (s.pool.lostCells + y.sendQueue.length) 65535
                  cells := s.pool.cells.set c { y with sendQueue := [], reserved := 0 } } }
            (y.sendQueue.length + y.reserved)
        (u.setSlots c ⟨none, none, none, none⟩).setCtx c
          { u.ctx c with
            timer := .stopped, quietMarker := false, askSinceRefusal := false, holdoff := none, window := none
            role := if keepRole = true then x.role else none }

/-- Keeping and replacing words of the REQUEST slot and its overflow (R7, R100, R101); which call number and which of
the two holds a word that a circuit places carries (R100, R103); what the tests on a slot's unsent word ask, and when a
call number is that of the current call (R5). -/
def Obligations.RequestSlotKeepsAndReplaces : Prop :=
  (∀ (s : State) (c : CircuitId) (word : RequestWord) (drain rouse : Bool),
    s.placeRequest c word drain rouse =
      s.setSlots c
        ((s.slots c).placeRequest (s.ctx c)
          { word := word, callNumber := (s.ctx c).callNumber, heldForDraining := drain, heldForRouse := rouse }))
  ∧ (∀ (l : Slots) (x : Context) (k : Byte),
    (x.isCurrent k = true ↔ x.state ≠ .idle ∧ x.state ≠ .barred ∧ x.callNumber = k)
    ∧ (l.holdsDial = true ↔ ∃ r v, l.request = some r ∧ r.word = .dial v)
    ∧ (l.holdsWake k = true ↔ ∃ r, l.request = some r ∧ r.word = .wake ∧ r.callNumber = k)
    ∧ (l.holdsHang k = true ↔ ∃ r, l.request = some r ∧ r.word = .hang ∧ r.callNumber = k)
    ∧ (l.holdsQuietAsk = true ↔ ∃ r, l.request = some r ∧ r.word = .quietAsk)
    ∧ (l.releaseHeld = true ↔ ∃ r, l.request = some r ∧ r.word = .hang ∧ r.heldForRouse = true))
  ∧ ∀ (l : Slots) (x : Context) (w : RequestSlot) (k : Byte),
    (l.request = none → l.placeRequest x w = { l with request := some w })
    ∧ (∀ old, l.request = some old → old.word = .hang → x.isCurrent old.callNumber = false →
        l.placeRequest x w = { l with request := some w, overflow := some old.callNumber })
    ∧ (∀ old, l.request = some old → (old.word ≠ .hang ∨ x.isCurrent old.callNumber = true) →
        l.placeRequest x w = { l with request := some w })
    ∧ (l.request = none → l.overflow ≠ some k →
        l.placeStaleHang k = { l with request := some ⟨.hang, k, false, false⟩ })
    ∧ (∀ old, l.request = some old → ¬ (old.word = .hang ∧ old.callNumber = k) →
        l.placeStaleHang k = { l with overflow := some k })
    ∧ (∀ old, l.request = some old → old.word = .hang → old.callNumber = k → l.placeStaleHang k = l)
    ∧ (∀ m, l.request = none → l.overflow = some m →
        l.moveOverflow = { l with request := some ⟨.hang, m, false, false⟩, overflow := none })
    ∧ (l.request ≠ none → l.moveOverflow = l)

/-- DIAL: its checks in their order, then the call it opens (R9, R10). -/
def Obligations.DialOpensACall : Prop :=
  ∀ (s : State) (tag : Byte) (c : CircuitId) (w d : Byte), PortReady s →
    let x := s.ctx c
    let opened :=
      (((State.setCells { s with pool := { s.pool with free := s.pool.free - w.toNat } } c
          { s.cells c with reserved := (s.cells c).reserved + w.toNat }).setCtx c
        { x with
          callNumber := x.callNumber + 1, role := some .caller, window := some w.toNat, sendDepth := d.toNat
          creditLimit := 0, sentCount := 0, granted := w, receivedCount := 0
          timer := .dial s.port.parameters.dialTimeout }).setSlots c
        { s.slots c with request := some ⟨.dial w, x.callNumber + 1, false, false⟩, overflow := none }).enter c
        .dialing .host
    exec (.dial tag [circuitByte c, w, d]) s = .next (State.settle
      (if x.state ≠ .idle then s.answered .badState tag []
      else if (s.cells c).receiveQueue ≠ [] then s.answered .unread tag []
      else if s.link.state ∈ [.down, .training, .closing, .fault] then s.answered .notUp tag []
      else if s.link.state ∈ [.nap, .rousing] then s.answered .napping tag []
      else if w.toNat < 2 ∨ 32 < w.toNat ∨ d.toNat < 1 ∨ 32 < d.toNat then s.answered .badValue tag []
      else if s.pool.free < w.toNat then s.answered .noBuffer tag []
      else (opened.abandonNapAsk .host).answered .ok tag []))

/-- ACCEPT: its checks in their order, then the call it answers; a window or depth of 0 is not given (R15, R193). -/
def Obligations.AcceptAnswersACall : Prop :=
  ∀ (s : State) (tag : Byte) (c : CircuitId) (w d : Byte), PortReady s →
    let x := s.ctx c
    let window := if w = 0 then x.answerWindow else w.toNat
    let depth := if d = 0 then 16 else d.toNat
    let answered :=
      (((State.setCells { s with pool := { s.pool with free := s.pool.free - window } } c
          { s.cells c with reserved := (s.cells c).reserved + window }).setCtx c
        { x with
          timer := .stopped, window := some window, sendDepth := depth, granted := count8 window
          receivedCount := 0 }).setSlots c
        { s.slots c with answer := some ⟨.answer (count8 window), x.callNumber⟩ }).enter c .connected .host
    let result :=
      State.settle
        (if x.state ≠ .ringing then s.answered .badState tag []
        else if (s.cells c).receiveQueue ≠ [] then s.answered .unread tag []
        else if (w ≠ 0 ∧ (w.toNat < 2 ∨ 32 < w.toNat)) ∨ 32 < d.toNat then s.answered .badValue tag []
        else if s.pool.free < window then s.answered .noBuffer tag []
        else answered.answered .ok tag [])
    exec (.accept tag [circuitByte c, w, d]) s = .next result
    ∧ (d = 0 → exec (.accept tag [circuitByte c, w]) s = .next result)
    ∧ (w = 0 → d = 0 → exec (.accept tag [circuitByte c]) s = .next result)

/-- An offer that the host refuses, or that its ring timer ends, is closed down and rejected with its reason (R16,
R17). -/
def Obligations.OfferDeclined : Prop :=
  ∀ (s : State) (tag : Byte) (c : CircuitId),
    let declined (reason : Byte) (cause : CircuitCause) : State :=
      ((s.closeDown c false).setSlots c ⟨none, none, some ⟨.reject reason, (s.ctx c).callNumber⟩, none⟩).enter c
        .idle cause
    (PortReady s →
      exec (.refuse tag [circuitByte c]) s = .next (State.settle
        (if (s.ctx c).state = .ringing then (declined 0 .host).answered .ok tag []
        else s.answered .badState tag [])))
    ∧ (∀ ms, s.power = .running → (s.ctx c).timer = .ring ms →
        exec (.ringTimerExpiry c) s = .next (declined 1 .noAnswer).settle)

/-- HANGUP by the circuit's state, and for a quiet or waking circuit by the trunk's (R22, R23, R48, R49); a trunk state
without a row there is refused BAD-STATE, which is the model's choice (log 11). -/
def Obligations.HangupByState : Prop :=
  ∀ (s : State) (tag : Byte) (c : CircuitId), PortReady s →
    let x := s.ctx c
    let l := s.slots c
    let draining : Bool := (s.cells c).sendQueue ≠ []
    let refused := s.answered .badState tag []
    let released :=
      (State.placeRequest (s.setCtx c { x with quietMarker := false }) c .hang draining false).enter c .releasing
        .host
    let held := s.placeRequest c .hang draining true
    exec (.hangup tag [circuitByte c]) s = .next (State.settle
      (match x.state with
       | .idle | .barred | .ringing | .releasing => refused
       | .dialing =>
         let u := s.closeDown c false
         ((if l.holdsDial = true then u
           else u.setSlots c ⟨some ⟨.hang, x.callNumber, false, false⟩, none, none, none⟩).enter c .idle
             .host).answered .ok tag []
       | .connected | .quieting => released.answered .ok tag []
       | .failed => ((s.setCtx c { x with role := none }).enter c .idle .host).answered .ok tag []
       | .quiet =>
         if s.link.state ∈ [.up, .retune, .napAsking] then
           (released.abandonNapAsk .host).answered .ok tag []
         else if s.link.state ∈ [.nap, .rousing] ∧ l.releaseHeld = false then
           (if s.link.state = .nap then held.startRouse else held).answered .ok tag []
         else refused
       | .waking =>
         if s.link.state ∈ [.nap, .rousing] ∧ l.releaseHeld = false then held.answered .ok tag [] else refused))

/-- The dial timer gives up a call, with a HANG where its DIAL was sent; the holdoff ends (R11, R42). -/
def Obligations.DialTimerAndHoldoffExpire : Prop :=
  ∀ (s : State) (c : CircuitId) (ms : Nat), s.power = .running →
    let x := s.ctx c
    let u := s.closeDown c false
    (x.timer = .dial ms →
      exec (.dialTimerExpiry c) s = .next
        ((if (s.slots c).holdsDial = true then u
          else u.setSlots c ⟨some ⟨.hang, x.callNumber, false, false⟩, none, none, none⟩).enter c .idle
            .timeout).settle)
    ∧ (x.holdoff = some ms →
      exec (.holdoffExpiry c) s = .next (s.setCtx c { x with holdoff := none, askSinceRefusal := false }).settle)

/-- BAR, UNBAR and OPTIONS (R28, R31). -/
def Obligations.BarUnbarAndOptions : Prop :=
  ∀ (s : State) (tag : Byte) (c : CircuitId) (auto window : Byte), PortReady s →
    let x := s.ctx c
    exec (.bar tag [circuitByte c]) s = .next (State.settle
      (if x.state = .idle then (s.enter c .barred .host).answered .ok tag [] else s.answered .badState tag []))
    ∧ exec (.unbar tag [circuitByte c]) s = .next (State.settle
      (if x.state = .barred then (s.enter c .idle .host).answered .ok tag [] else s.answered .badState tag []))
    ∧ exec (.options tag [circuitByte c, auto, window]) s = .next (State.settle
      (if (auto ≠ 0 ∧ auto ≠ 1) ∨ window.toNat < 2 ∨ 32 < window.toNat then s.answered .badValue tag []
      else
        (s.setCtx c { x with autoQuiet := auto = 1, answerWindow := window.toNat }).answered .ok tag []))

/-- QUIET: its checks in their order, then the ask (R36, R37). -/
def Obligations.QuietAsks : Prop :=
  ∀ (s : State) (tag : Byte) (c : CircuitId), PortReady s →
    let x := s.ctx c
    let draining : Bool := (s.cells c).sendQueue ≠ []
    let asked :=
      State.placeRequest
        (s.setCtx c
          { x with
            quietMarker := true, holdoff := none
            askSinceRefusal := if x.holdoff = none then x.askSinceRefusal else false })
        c .quietAsk draining false
    exec (.quiet tag [circuitByte c]) s = .next (State.settle
      (if x.state ≠ .connected ∨ x.quietMarker = true then s.answered .badState tag []
      else if (s.slots c).holdsWake x.callNumber = true then s.answered .busy tag []
      else if x.holdoff ≠ none ∧ x.askSinceRefusal = false then s.answered .holdoff tag []
      else if draining = true then asked.answered .ok tag []
      else (asked.enter c .quieting .host).answered .ok tag []))

/-- WAKE by circuit and trunk (R45); a trunk state without a row is refused BAD-STATE, which is the model's choice
(log 11). -/
def Obligations.WakeByTrunkState : Prop :=
  ∀ (s : State) (tag : Byte) (c : CircuitId), PortReady s →
    let waking := s.enter c .waking .host
    exec (.wake tag [circuitByte c]) s = .next (State.settle
      (if (s.ctx c).state ≠ .quiet ∨ (s.slots c).releaseHeld = true then s.answered .badState tag []
      else if s.link.state ∈ [.up, .retune] then
        ((s.placeRequest c .wake false false).enter c .connected .host).answered .ok tag []
      else if s.link.state = .napAsking then s.answered .busy tag []
      else if s.link.state = .nap then waking.startRouse.answered .ok tag []
      else if s.link.state = .rousing then waking.answered .ok tag []
      else s.answered .badState tag []))

/-! ## Buffers -/

/-- SEND: its gate and checks in their order, then the cell it queues; only a refusal for want of room marks the
circuit (R44, R57, R72). -/
def Obligations.SendQueuesAPayload : Prop :=
  ∀ (s : State) (tag : Byte) (c : CircuitId) (payload : Payload), PortReady s → payload.length ≤ 79 →
    let x := s.ctx c
    let y := s.cells c
    let gate : Bool :=
      (x.state = .connected ∧ x.quietMarker = false) ∨ (x.state = .waking ∧ (s.slots c).releaseHeld = false)
    let marked := s.setCtx c { x with refusedMarker := true }
    exec (.send tag (circuitByte c :: payload)) s = .next (State.settle
      (if gate = false then s.answered .badState tag []
      else if payload.length < 1 ∨ 64 < payload.length then s.answered .badLength tag []
      else if x.sendDepth ≤ y.sendQueue.length then marked.answered .queueFull tag []
      else if s.pool.free = 0 then marked.answered .noBuffer tag []
      else
        (State.setCells { s with pool := { s.pool with free := s.pool.free - 1 } } c
          { y with sendQueue := y.sendQueue ++ [payload] }).answered .ok tag []))

/-- FETCH and DISCARD: the cells they take go to the reservation with credit on a live call, and to the free pool
otherwise; an emptied queue clears the ARRIVED latch (R65, R66, R67, R169). -/
def Obligations.FetchAndDiscardReturnCells : Prop :=
  ∀ (s : State) (tag : Byte) (c : CircuitId) (choice : Byte), PortReady s →
    let x := s.ctx c
    let y := s.cells c
    let without (n : Nat) : State :=
      let rest := y.receiveQueue.drop n
      let g := x.granted + count8 n
      let u :=
        if x.state ∈ [.dialing, .connected, .quieting, .quiet, .waking, .releasing] then
          ((s.setCells c { y with receiveQueue := rest, reserved := y.reserved + n }).setCtx c
            { x with granted := g }).setSlots c { s.slots c with credit := some ⟨x.callNumber, g⟩ }
        else (s.setCells c { y with receiveQueue := rest }).releaseCells n
      if rest = [] then
        { u with
          notices := u.notices.setRecord (.arrived c) { u.notices.record (.arrived c) with latch := false } }
      else u
    (y.receiveQueue = [] →
      exec (.fetch tag [circuitByte c]) s = .next (s.answered .empty tag []).settle)
    ∧ (∀ payload rest, y.receiveQueue = payload :: rest →
        exec (.fetch tag [circuitByte c]) s = .next
          ((without 1).answered .ok tag
            (circuitByte c :: count8 rest.length :: count8 payload.length :: payload)).settle)
    ∧ (choice ≠ 0 → choice ≠ 1 →
        exec (.discard tag [circuitByte c, choice]) s = .next (s.answered .badValue tag []).settle)
    ∧ ((choice = 0 ∨ choice = 1) → y.receiveQueue = [] →
        exec (.discard tag [circuitByte c, choice]) s = .next (s.answered .empty tag []).settle)
    ∧ ((choice = 0 ∨ choice = 1) → y.receiveQueue ≠ [] →
        let n := if choice = 0 then 1 else y.receiveQueue.length
        exec (.discard tag [circuitByte c, choice]) s = .next
          ((without n).answered .ok tag [count8 n]).settle)

/-! ## Notices -/

/-- An occurrence (R159), the occurrences of a claim in scan order (R161), and the end of a claim: its occurrences are
taken, then the Arbiter makes its choice (R109). That they wait in the model's own field `raised` is the model's choice
(log 6), and that the choice comes at the end of every claim is read by inference (log 7). -/
def Obligations.OccurrencesAreTakenInScanOrder : Prop :=
  (∀ s : State,
    s.closeClaim = { s with notices := s.notices.takeRaised }
    ∧ s.settle = State.arbitrate { s with notices := s.notices.takeRaised })
  ∧ ∀ (n : NoticeUnit) (p : Pair),
    let r := n.record p
    let counted := { r with latch := true, unreported := min (r.unreported + 1) 255 }
    n.occurrence p =
      (if r.mask = false ∧ r.queued = false ∧ n.queue.length < 16 then
        { n with
          records := n.records.set p { counted with queued := true }, queue := n.queue ++ [p], attn := true }
      else { n with records := n.records.set p counted })
    ∧ (∃ order : List Pair,
        order.Perm n.raised
        ∧ order.Pairwise (fun a b => scanPosition a ≤ scanPosition b)
        ∧ n.takeRaised = order.foldl NoticeUnit.occurrence { n with raised := [] })

/-- POLL: the first four entries are reported with their codes, count, latch and detail, cleared, and the queue refilled
in scan order (R164, R165, R166, R167); the scan order itself (R157). -/
def Obligations.PollReportsAndRefills : Prop :=
  scanOrder =
    [.trunkState, .trunkError, .portError, .state 0, .arrived 0, .room 0, .state 1, .arrived 1, .room 1, .state 2,
      .arrived 2, .room 2, .state 3, .arrived 3, .room 3, .state 4, .arrived 4, .room 4, .state 5, .arrived 5, .room 5,
      .state 6, .arrived 6, .room 6, .state 7, .arrived 7, .room 7]
  ∧ (∀ p : Pair, scanOrder[scanPosition p]? = some p)
  ∧ ∀ (s : State) (tag : Byte), PortReady s →
    let first := s.notices.queue.take 4
    let keeps (p : Pair) : Bool :=
      match p with
      | .arrived c => (s.cells c).receiveQueue ≠ []
      | _ => false
    let cleared : NoticeUnit :=
      first.foldl
        (fun n p =>
          n.setRecord p
            { n.record p with unreported := 0, queued := false, latch := (n.record p).latch && keeps p })
        s.notices
    let rest := s.notices.queue.drop 4
    let after : NoticeUnit :=
      scanOrder.foldl
        (fun n p =>
          let r := n.record p
          if r.mask = false ∧ 0 < r.unreported ∧ r.queued = false ∧ n.queue.length < 16 then
            { n with records := n.records.set p { r with queued := true }, queue := n.queue ++ [p], attn := true }
          else n)
        { cleared with queue := rest, attn := rest ≠ [] }
    let latches := (scanOrder.map fun p => if (after.record p).latch = true then 2 ^ scanPosition p else 0).sum
    let codes (p : Pair) : List Byte :=
      match p with
      | .trunkState => [0, 0]
      | .trunkError => [0, 1]
      | .portError => [1, 1]
      | .state c => [count8 (c.val + 2), 0]
      | .arrived c => [count8 (c.val + 2), 2]
      | .room c => [count8 (c.val + 2), 3]
    let detail (p : Pair) : List Byte :=
      match p with
      | .trunkState =>
        [trunkStateCode s.link.state, (s.link.cause.map trunkCauseCode).getD 0xFF,
          (if s.link.peerCalling = true then 1 else 0) ||| (if s.link.holdElapsed = true then 2 else 0), 0]
      | .trunkError => [count8 s.checker.errorCounter, 0, 0, 0]
      | .portError => count16 s.port.frameErrors ++ count16 s.port.overruns
      | .state c => [circuitStateCode (s.ctx c).state, ((s.ctx c).lastCause.map circuitCauseCode).getD 0xFF, 0, 0]
      | .arrived c => [count8 (s.cells c).receiveQueue.length, 0, 0, 0]
      | .room c => [count8 ((s.ctx c).sendDepth - (s.cells c).sendQueue.length), 0, 0, 0]
    exec (.poll tag []) s = .next
      (State.answered { s with notices := after } .ok tag
        ([count8 first.length, count8 after.queue.length] ++ le32 (BitVec.ofNat 32 latches)
          ++ first.flatMap fun p =>
            codes p
              ++ [count8 (s.notices.record p).unreported, if (s.notices.record p).latch = true then 1 else 0]
              ++ detail p)).settle

/-- MASK and DISMISS of a pair, and their refusal for what is no pair or no setting (R170, R171); the pairs by their
source and kind codes (R157, section 10.5). -/
def Obligations.MaskAndDismiss : Prop :=
  (∀ (source kind : Byte) (p : Pair),
    pairOf source kind = some p ↔
      (source, kind) =
        match p with
        | .trunkState => (0, 0)
        | .trunkError => (0, 1)
        | .portError => (1, 1)
        | .state c => (count8 (c.val + 2), 0)
        | .arrived c => (count8 (c.val + 2), 2)
        | .room c => (count8 (c.val + 2), 3))
  ∧ ∀ (s : State) (tag source kind setting : Byte), PortReady s →
    (pairOf source kind = none →
      exec (.dismiss tag [source, kind]) s = .next (s.answered .badValue tag []).settle
      ∧ exec (.mask tag [source, kind, setting]) s = .next (s.answered .badValue tag []).settle)
    ∧ (setting ≠ 0 → setting ≠ 1 →
        exec (.mask tag [source, kind, setting]) s = .next (s.answered .badValue tag []).settle)
    ∧ (∀ p, pairOf source kind = some p →
        let n := s.notices
        let r := n.record p
        let reply := [count8 r.unreported, if r.latch = true then 1 else 0]
        let off : NoticeUnit :=
          if 0 < r.unreported ∧ r.queued = false ∧ n.queue.length < 16 then
            { n with
              records := n.records.set p { r with mask := false, queued := true }
              queue := n.queue ++ [p], attn := true }
          else { n with records := n.records.set p { r with mask := false } }
        let kept := n.queue.filter (· ≠ p)
        let forgotten : NoticeUnit :=
          { n with
            records := n.records.set p { r with latch := false, unreported := 0, queued := false }
            queue := kept, attn := kept ≠ [] }
        let refilled : NoticeUnit :=
          scanOrder.foldl
            (fun n p =>
              let r := n.record p
              if r.mask = false ∧ 0 < r.unreported ∧ r.queued = false ∧ n.queue.length < 16 then
                { n with records := n.records.set p { r with queued := true }, queue := n.queue ++ [p], attn := true }
              else n)
            forgotten
        (setting = 1 →
          exec (.mask tag [source, kind, setting]) s = .next
            (State.answered { s with notices := { n with records := n.records.set p { r with mask := true } } }
              .ok tag reply).settle)
        ∧ (setting = 0 →
          exec (.mask tag [source, kind, setting]) s = .next
            (State.answered { s with notices := off } .ok tag reply).settle)
        ∧ exec (.dismiss tag [source, kind]) s = .next
            (State.answered { s with notices := refilled } .ok tag reply).settle)

/-! ## Cells -/

/-- A cell by its sequence number and by the trunk state (R89 to R94, R151, R153). -/
def Obligations.CellsBySequenceAndTrunkState : Prop :=
  ∀ (s : State) (i : Instr) (sequence circuit : Byte) (owner : CircuitId → State → State) (c : CircuitId),
    cellRow i = some (sequence, circuit, owner) → circuitOf circuit = some c → s.power = .running →
    let u := if s.link.state = .rousing then s.rouseToUp s.link.cause else s
    let e := s.checker.expected
    let d := (sequence - e).toNat
    (s.link.state ∈ [.up, .napAsking, .retune, .rousing] →
      (d = 0 → exec i s = .next (owner c u.accepting).settle)
      ∧ (1 ≤ d → d ≤ 127 →
          exec i s = .next (State.settle
            (if u.link.state ≠ .retune ∧ s.checker.nakOutstanding = false then
              { u with
                checker := { u.checker with nakOutstanding := true }
                transmit := { u.transmit with ackNak := some (.nak (e - 1)) } }
            else u)))
      ∧ (128 ≤ d →
          exec i s = .next
            (State.settle { u with transmit := { u.transmit with ackNak := some (.ack (e - 1)) } })))
    ∧ (s.link.state ∈ [.down, .training, .closing, .fault] → exec i s = .next s.settle)
    ∧ (s.link.state = .nap →
        exec i s = .next ((s.answerLink .rouseOk).rouseToUp (some .peer)).settle)

/-- A frame that fails its check (R88, R96), and the commands whose operands no good frame carries (R88, R194). -/
def Obligations.FramesThatFailTheirCheck : Prop :=
  (∀ s : State, s.power = .running →
    let n := min (s.checker.errorCounter + 1) 255
    let failed := { s with checker := { s.checker with checkErrors := min (s.checker.checkErrors + 1) 65535 } }
    let counted : State :=
      if s.checker.errorWindow = none then failed
      else if n < s.port.parameters.errorThreshold then
        State.report { failed with checker := { failed.checker with errorCounter := n } } .trunkError
      else
        let u :=
          State.report { failed with checker := { failed.checker with errorCounter := 0, thresholdReported := true } }
            .trunkError
        if s.link.state ∈ [.up, .napAsking, .rousing] then u.retuneCause .errorThreshold false else u
    exec .frameFailsCheck s = .next (State.settle
      (if counted.link.state ∈ [.up, .napAsking] ∧ counted.checker.nakOutstanding = false then
        { counted with
          checker := { counted.checker with nakOutstanding := true }
          transmit := { counted.transmit with ackNak := some (.nak (counted.checker.expected - 1)) } }
      else counted)))
  ∧ (∀ (s : State) (i : Instr), s.power = .running → wellFormed i = false → requestFrame i = none →
      exec i s = exec .frameFailsCheck s)

/-- An incoming DIAL that is accepted, in every circuit state (R14, R18, R19, R34). -/
def Obligations.IncomingDialByState : Prop :=
  ∀ (s : State) (q b k w : Byte) (c : CircuitId), Accepts s q b c →
    let u := s.accepting
    let x := s.ctx c
    let rung (v : State) (cause : CircuitCause) : State :=
      ((v.setCtx c
        { v.ctx c with
          callNumber := k, role := some .callee, window := none, creditLimit := w, sentCount := 0, granted := 0
          receivedCount := 0, timer := .ring s.port.parameters.ringTimeout }).enter c .ringing
            cause).abandonNapAsk .peer
    exec (.incomingDial q b k w) s = .next (State.settle
      (if w.toNat < 2 ∨ 32 < w.toNat then { u with pool := { u.pool with badWords := min (u.pool.badWords + 1) 65535 } }
      else
        match x.state with
        | .idle => rung u .peer
        | .dialing => if s.port.side = .a then u else rung (u.closeDown c false) .crossed
        | .barred => u.setSlots c { u.slots c with answer := some ⟨.reject 2, k⟩ }
        | .failed => u.setSlots c { u.slots c with answer := some ⟨.reject 3, k⟩ }
        | .ringing | .connected | .quieting | .quiet | .waking | .releasing =>
          if x.callNumber = k then u else rung (u.closeDown c false) .superseded))

/-- An incoming ANSWER and an incoming REJECT that are accepted (R12, R13, R20, R34). -/
def Obligations.IncomingAnswerAndReject : Prop :=
  ∀ (s : State) (q b k w : Byte) (c : CircuitId), Accepts s q b c →
    let u := s.accepting
    let x := s.ctx c
    let bad := { u with pool := { u.pool with badWords := min (u.pool.badWords + 1) 65535 } }
    let current : Bool := x.state ∉ [.idle, .barred] ∧ x.callNumber = k
    exec (.incomingAnswer q b k w) s = .next (State.settle
      (if w.toNat < 2 ∨ 32 < w.toNat then bad
      else if current = false then u.setSlots c ((u.slots c).placeStaleHang k)
      else if x.state = .dialing then
        (u.setCtx c { x with creditLimit := w, timer := .stopped }).enter c .connected .peer
      else u))
    ∧ exec (.incomingReject q b k w) s = .next (State.settle
      (if 3 < w.toNat then bad
      else if x.state = .dialing ∧ x.callNumber = k then
        (u.closeDown c false).enter c .idle
          (if w = 0 then .refused else if w = 1 then .noAnswer else if w = 2 then .barred else .held)
      else u))

/-- An incoming HANG and an incoming HANG-DONE that are accepted (R21, R25, R26, R27, R50). -/
def Obligations.IncomingHangAndHangDone : Prop :=
  ∀ (s : State) (q b k : Byte) (c : CircuitId), Accepts s q b c →
    let u := s.accepting
    let x := s.ctx c
    let closed := u.closeDown c false
    let done := closed.setSlots c ⟨none, none, some ⟨.hangDone, k⟩, none⟩
    exec (.incomingHang q b k) s = .next (State.settle
      (if x.callNumber ≠ k ∨ x.state ∈ [.idle, .barred, .failed] then u
      else if x.state ≠ .releasing then done.enter c .idle .peer
      else if (s.slots c).holdsHang k = true then done.enter c .idle .host
      else closed.enter c .idle .host))
    ∧ exec (.incomingHangDone q b k) s = .next (State.settle
      (if x.state = .releasing ∧ x.callNumber = k then closed.enter c .idle .host else u))

/-- Incoming QUIET-ASK, QUIET-OK, QUIET-REFUSE and WAKE that are accepted: the answering test and both answers, the
asker's outcomes, the end of the quiet (R35, R39 to R42, R46). -/
def Obligations.IncomingQuietWords : Prop :=
  (∀ (s : State) (q b k : Byte) (c : CircuitId), Accepts s q b c →
      let u := s.accepting
      let x := s.ctx c
      let l := s.slots c
      let agrees : Bool :=
        x.state ∈ [.quieting, .quiet]
          ∨ (x.state = .connected ∧ (s.cells c).sendQueue = [] ∧ (x.quietMarker = true ∨ x.autoQuiet = true))
      let answered := { l with answer := some ⟨.quietOk, k⟩ }
      let agreed :=
        (u.setCtx c { x with quietMarker := false, askSinceRefusal := false, holdoff := none }).setSlots c
          (if x.state = .quieting ∧ l.holdsQuietAsk = true then
            Slots.moveOverflow { answered with request := none }
          else answered)
      exec (.incomingQuietAsk q b k) s = .next (State.settle
        (if x.callNumber ≠ k ∨ x.state ∉ [.connected, .quieting, .quiet] then u
        else if agrees = true then
          if x.state = .quiet then agreed else agreed.enter c .quiet .peer
        else
          (u.setSlots c { l with answer := some ⟨.quietRefuse, k⟩ }).setCtx c
            { x with askSinceRefusal := x.askSinceRefusal || x.holdoff.isSome })))
  ∧ (∀ (s : State) (q b k : Byte) (c : CircuitId), Accepts s q b c →
      let u := s.accepting
      let x := s.ctx c
      exec (.incomingQuietOk q b k) s = .next (State.settle
        (if x.state = .quieting ∧ x.callNumber = k then
          (u.setCtx c { x with quietMarker := false }).enter c .quiet .peer
        else u))
      ∧ exec (.incomingQuietRefuse q b k) s = .next (State.settle
        (if x.state = .quieting ∧ x.callNumber = k then
          (u.setCtx c
            { x with
              quietMarker := false, holdoff := some s.port.parameters.quietHoldoff
              askSinceRefusal := false }).enter c .connected .quietRefused
        else u))
      ∧ exec (.incomingWake q b k) s = .next (State.settle
        (if x.state = .quiet ∧ x.callNumber = k then (u.enter c .connected .peer).abandonNapAsk .peer else u)))

/-- An incoming CREDIT and an incoming data cell that are accepted (R62, R63, R64, R71, R29); that a WAKING circuit
discards a cell as stale is the model's choice (log 12). -/
def Obligations.IncomingCreditAndData : Prop :=
  ∀ (s : State) (q b k n : Byte) (payload : Payload) (c : CircuitId), Accepts s q b c →
    let u := s.accepting
    let x := s.ctx c
    let y := s.cells c
    let taking : Bool := x.state ∈ [.connected, .quieting, .quiet, .waking, .releasing]
    let stale := { u with pool := { u.pool with staleCells := min (u.pool.staleCells + 1) 65535 } }
    let accepted :=
      ((u.setCells c { y with receiveQueue := y.receiveQueue ++ [payload], reserved := y.reserved - 1 }).setCtx c
        { x with receivedCount := x.receivedCount + 1 }).report (.arrived c)
    let failed :=
      State.closeDown { u with pool := { u.pool with lostCells := min (u.pool.lostCells + 1) 65535 } } c true
    let overrun :=
      ((failed.setSlots c ⟨some ⟨.hang, x.callNumber, false, false⟩, none, none, none⟩).enter c .failed
        .overrun).abandonNapAsk .peer
    exec (.incomingCredit q b k n) s = .next (State.settle
      (if taking = false ∨ x.callNumber ≠ k then u
      else if (n - x.sentCount).toNat ≤ 32 then u.setCtx c { x with creditLimit := n }
      else { u with pool := { u.pool with badWords := min (u.pool.badWords + 1) 65535 } }))
    ∧ (1 ≤ payload.length → payload.length ≤ 64 →
      exec (.incomingDataCell q b payload) s = .next (State.settle
        (match x.state with
         | .connected | .quieting | .quiet => if y.reserved = 0 then overrun else accepted
         | .releasing => if y.reserved = 0 then stale else accepted
         | .idle | .dialing | .ringing | .waking | .barred | .failed => stale)))

/-! ## The trunk -/

/-- What every change of trunk state does (R83, R116 to R119, R121, R143), the entry to UP (R126), and the end of a
nap ask by a claim (R148, R149). -/
def Obligations.TrunkStateChanges : Prop :=
  ∀ (s : State) (st : TrunkState) (cause : Option TrunkCause) (why : TrunkCause),
    s.changeTrunk st cause =
      State.report
        { s with
          link :=
            { s.link with
              state := st, cause := cause, peerHeard := false, peerReady := false, readySent := false
              tuneHeard := false, tuneOkReceived := false, tuneOkSent := false, peerCalling := false
              holdElapsed := false, napGranted := false, repeatTimer := none, stateTimer := none }
          retry := { s.retry with replayTimer := none }
          transmit :=
            { s.transmit with linkSlot := { s.transmit.linkSlot with standing := none, due := false } } }
        .trunkState
    ∧ s.enterUp cause =
        (let u := s.changeTrunk .up cause
        { u with
          link := { u.link with echo := false }
          retry :=
            { u.retry with
              replayTimer := if s.retry.entries = [] then none else some s.port.parameters.ackTimeout } })
    ∧ s.abandonNapAsk why = if s.link.state = .napAsking then s.enterUp (some why) else s

/-- The trunk loss event: each block's part, and the cells it returns as one freeing event (R32, R73, R86, R97, R115,
R139). -/
def Obligations.TrunkLossEvent : Prop :=
  ∀ (s : State) (cause : CircuitCause),
    let ends (c : CircuitId) : Bool := (s.ctx c).state ∉ [.idle, .barred]
    let sends (c : CircuitId) : Nat := if ends c = true then (s.cells c).sendQueue.length else 0
    let gives (c : CircuitId) : Nat := if ends c = true then (s.cells c).reserved else 0
    s.trunkLoss cause =
      State.releaseCells
        { s with
          circuits := .ofFn fun c =>
            if ends c = true then
              { s.ctx c with
                state := .idle, lastCause := some cause, timer := .stopped, quietMarker := false
                askSinceRefusal := false, holdoff := none, window := none, role := none }
            else s.ctx c
          pool :=
            { s.pool with
              cells := .ofFn fun c =>
                if ends c = true then { s.cells c with sendQueue := [], reserved := 0 } else s.cells c
              lostCells := min (s.pool.lostCells + circuitSum sends) 65535 }
          retry := { s.retry with entries := [], replayPointer := none, replayTimer := none, replayCounter := 0 }
          checker :=
            { s.checker with
              nakOutstanding := false, errorWindow := none, errorCounter := 0, thresholdReported := false }
          transmit :=
            { s.transmit with
              slots := .all ⟨none, none, none, none⟩, ackNak := none, linkSlot := ⟨none, false, none⟩ }
          link :=
            { s.link with
              retuneCounter := 0, tuneHeard := false, tuneOkReceived := false, tuneOkSent := false
              echo := false, repeatTimer := none }
          notices :=
            { s.notices with raised := s.notices.raised ++ (circuitIds.filter ends).map Pair.state } }
        (circuitSum sends + circuitSum gives + dataCells s.retry.entries)

/-- TRUNK-UP by the trunk state, what entry to TRAINING does, and the train timer (R120, R122, R125). -/
def Obligations.TrunkUpBeginsTraining : Prop :=
  ∀ (s : State) (tag : Byte) (cause : TrunkCause) (heard : Bool),
    let refusedWith (st : Status) : StepOutcome := .next (s.answered st tag []).settle
    let up := exec (.trunkUp tag []) s
    let begun : StepOutcome := .next ((s.enterTraining .host false).answered .ok tag []).settle
    s.enterTraining cause heard =
      (let u := s.changeTrunk .training (some cause)
      { u with
        link :=
          { u.link with
            peerHeard := heard, repeatTimer := some s.port.parameters.helloInterval
            stateTimer := some ⟨.train, s.port.parameters.trainTimeout⟩ }
        transmit :=
          { u.transmit with
            linkSlot :=
              { u.transmit.linkSlot with
                standing :=
                  some (if heard = true then .ready else .hello (if s.port.side = .a then 0 else 1) 1 8 48)
                due := true } } })
    ∧ (PortReady s →
        (s.link.state = .down → up = begun)
        ∧ (s.link.state = .fault → s.link.holdElapsed = true → up = begun)
        ∧ (s.link.state = .fault → s.link.holdElapsed = false → up = refusedWith .holding)
        ∧ (s.link.state ∉ [.down, .fault] → up = refusedWith .badState))
    ∧ (∀ ms, s.power = .running → s.link.stateTimer = some ⟨.train, ms⟩ →
        exec .trainTimerExpiry s = .next (s.changeTrunk .down (some .noPeer)).settle)

/-- A HELLO by the trunk state: its checks, the peer calling mark and AUTO-FOLLOW (R121, R123, R134, R136 to R138). -/
def Obligations.HelloByTrunkState : Prop :=
  ∀ (s : State) (side version circuits capacity : Byte), s.power = .running → (side = 0 ∨ side = 1) →
    let wrong : Option TrunkCause :=
      if side = (if s.port.side = .a then 0 else 1) then some .sideClash
      else if version = 1 ∧ circuits = 8 ∧ capacity = 48 then none
      else some .version
    let called := State.report { s with link := { s.link with peerCalling := true } } .trunkState
    let followed : State :=
      if s.port.parameters.autoFollow = 0 then called
      else
        match wrong with
        | some cause => called.enterFault cause
        | none => called.enterTraining .peer true
    let heard := { s with link := { s.link with peerHeard := true } }
    let ready : State :=
      match s.transmit.linkSlot.standing with
      | some (.hello _ _ _ _) => heard.stand .ready
      | _ => heard
    let result :=
      match s.link.state with
      | .down => followed
      | .fault => if s.link.holdElapsed = true then followed else s
      | .training =>
        match wrong with
        | some cause => s.enterFault cause
        | none => if s.link.peerReady = true ∧ s.link.readySent = true then ready.enterUpFromTraining else ready
      | .up | .retune | .napAsking | .nap | .rousing | .closing => s.enterFault .peerRestart
    exec (.helloReceived side version circuits capacity) s = .next result.settle

/-- A READY and a TUNE-OK by the trunk state: training, the handshake of RETUNE, the one echo in UP, the implicit
rouse (R123, R126, R129, R151). -/
def Obligations.ReadyAndTuneOkByTrunkState : Prop :=
  ∀ s : State, s.power = .running →
    let echoed (x : LinkSignal) : State :=
      if s.link.echo = true then s
      else State.answerLink { s with link := { s.link with echo := true } } x
    let roused := (s.answerLink .rouseOk).rouseToUp (some .peer)
    let heard := { s with link := { s.link with peerHeard := true, peerReady := true } }
    let ready : State :=
      match s.transmit.linkSlot.standing with
      | some (.hello _ _ _ _) => heard.stand .ready
      | _ => heard
    let tuned := { s with link := { s.link with tuneHeard := true, tuneOkReceived := true } }
    let tuneOk : State :=
      match s.transmit.linkSlot.standing with
      | some .tune => tuned.stand .tuneOk
      | _ => tuned
    exec .readyReceived s = .next (State.settle
      (match s.link.state with
       | .training => if s.link.readySent = true then ready.enterUpFromTraining else ready
       | .up => echoed .ready
       | .nap => roused
       | .down | .retune | .napAsking | .rousing | .closing | .fault => s))
    ∧ exec .tuneOkReceived s = .next (State.settle
      (match s.link.state with
       | .retune => if s.link.tuneOkSent = true then tuneOk.returnFromRetune else tuneOk
       | .up => echoed .tuneOk
       | .nap => roused
       | .down | .training | .napAsking | .rousing | .closing | .fault => s))

/-- The retune causes: the RETUNE request, a TUNE, the rouse timer; the count, the limit and the entry (R127, R128,
R129, R140, R153). -/
def Obligations.RetuneCausesAndTune : Prop :=
  ∀ (s : State) (tag : Byte) (cause : TrunkCause) (heard : Bool),
    let counted := { s with link := { s.link with retuneCounter := s.link.retuneCounter + 1 } }
    let u := counted.changeTrunk .retune (some cause)
    let entered :=
      State.report
        { u with
          link :=
            { u.link with
              tuneHeard := heard, retunes := min (s.link.retunes + 1) 65535
              repeatTimer := some s.port.parameters.helloInterval
              stateTimer := some ⟨.retune, s.port.parameters.retuneTimeout⟩ }
          transmit :=
            { u.transmit with
              linkSlot :=
                { u.transmit.linkSlot with standing := some (if heard = true then .tuneOk else .tune), due := true } } }
        .trunkError
    let marked := { s with link := { s.link with tuneHeard := true } }
    let tuned : State :=
      match s.transmit.linkSlot.standing with
      | some .tune => marked.stand .tuneOk
      | _ => { marked with transmit := { s.transmit with linkSlot := { s.transmit.linkSlot with due := true } } }
    s.retuneCause cause heard =
      (if s.port.parameters.retuneLimit ≤ s.link.retuneCounter + 1 then counted.enterFault .retuneLimit
      else if s.link.state = .rousing then entered.resolveWaking
      else entered)
    ∧ (PortReady s →
        exec (.retune tag []) s = .next (State.settle
          (if s.link.state = .up then (s.retuneCause .host false).answered .ok tag []
          else s.answered .badState tag [])))
    ∧ (s.power = .running →
        exec .tuneReceived s = .next (State.settle
          (match s.link.state with
           | .up | .napAsking | .rousing => s.retuneCause .peer true
           | .retune => tuned
           | .nap => (s.answerLink .rouseOk).rouseToUp (some .peer)
           | .down | .training | .closing | .fault => s))
        ∧ (∀ ms, s.link.stateTimer = some ⟨.rouse, ms⟩ →
            exec .rouseTimerExpiry s = .next (s.retuneCause .rouseTimeout false).settle))

/-- An ACK and a NAK: removals, progress, the replay, strays, and the trunk states (R79 to R82, R93, R151, R153). -/
def Obligations.AckAndNakAtTheSender : Prop :=
  ∀ (s : State) (n : Byte), s.power = .running →
    let u := if s.link.state = .rousing then s.rouseToUp s.link.cause else s
    let stray := { u with retry := { u.retry with straySignals := min (u.retry.straySignals + 1) 65535 } }
    let removed (gone rest : List RetryEntry) : State :=
      State.releaseCells
        { u with
          retry :=
            { u.retry with
              entries := rest
              replayPointer := if rest = [] then none else u.retry.replayPointer.map (· - gone.length)
              replayCounter := 0
              replayTimer :=
                if rest = [] ∨ u.link.state ≠ .up then none else some s.port.parameters.ackTimeout }
          link := { u.link with retuneCounter := 0 } }
        (dataCells gone)
    let replay (v : State) : State :=
      if v.retry.entries = [] then v
      else
        State.report
          { v with retry := { v.retry with replayPointer := some 0, replays := min (v.retry.replays + 1) 65535 } }
          .trunkError
    let before := ((s.retry.entries.head?.map (·.sequence)).getD s.retry.nextSequence) - 1
    (s.link.state ∈ [.up, .napAsking, .retune, .rousing] →
      (∀ older e rest, s.retry.entries = older ++ e :: rest → e.sequence = n → (∀ a ∈ older, a.sequence ≠ n) →
        exec (.ackReceived n) s = .next (removed (older ++ [e]) rest).settle
        ∧ exec (.nakReceived n) s = .next (replay (removed (older ++ [e]) rest)).settle)
      ∧ ((∀ a ∈ s.retry.entries, a.sequence ≠ n) →
        exec (.ackReceived n) s = .next stray.settle
        ∧ exec (.nakReceived n) s = .next (if n = before then replay u else stray).settle))
    ∧ (s.link.state ∈ [.down, .training, .closing, .fault] →
        exec (.ackReceived n) s = .next s.settle ∧ exec (.nakReceived n) s = .next s.settle)
    ∧ (s.link.state = .nap →
        exec (.ackReceived n) s = .next ((s.answerLink .rouseOk).rouseToUp (some .peer)).settle
        ∧ exec (.nakReceived n) s = .next ((s.answerLink .rouseOk).rouseToUp (some .peer)).settle)

/-- The nap test, NAP with its checks in their order, and the signals and the timer of an ask (R144, R145, R146, R148,
R151, R153, R155). -/
def Obligations.NapAskedAndAnswered : Prop :=
  ∀ (s : State) (tag : Byte) (ms : Nat),
    let quiet : Bool := ∀ c ∈ circuitIds, (s.ctx c).state ∈ [.idle, .barred, .quiet]
    let empty : Bool := ∀ c ∈ circuitIds, s.slots c = ⟨none, none, none, none⟩
    let notices : Bool :=
      s.notices.queue ≠ [] ∨ ∃ p ∈ scanOrder, (s.notices.record p).mask = false ∧ 0 < (s.notices.record p).unreported
    let u := s.changeTrunk .napAsking (some .host)
    let asking :=
      { u with
        link :=
          { u.link with
            repeatTimer := some s.port.parameters.helloInterval
            stateTimer := some ⟨.napAsk, s.port.parameters.napAskTimeout⟩ }
        transmit :=
          { u.transmit with linkSlot := { u.transmit.linkSlot with standing := some .napAsk, due := true } } }
    let granted := State.answerLink { s with link := { s.link with napGranted := true } } .napOk
    (PortReady s →
      exec (.nap tag []) s = .next (State.settle
        (if s.link.state ≠ .up then s.answered .badState tag []
        else if s.link.napGranted = true then s.answered .busy tag []
        else if quiet = false ∨ empty = false then s.answered .notQuiet tag []
        else if s.retry.entries ≠ [] then s.answered .unacked tag []
        else if notices = true then s.answered .pendingNotice tag []
        else asking.answered .ok tag [])))
    ∧ (s.power = .running →
      exec .napAskReceived s = .next (State.settle
        (match s.link.state with
         | .up =>
           if s.link.napGranted = true then s
           else if quiet = true ∧ empty = true ∧ s.retry.entries = [] then granted
           else s.answerLink .napRefuse
         | .napAsking => if s.link.napGranted = true then s else granted
         | .nap => s.answerLink .napOk
         | .down | .training | .retune | .rousing | .closing | .fault => s))
      ∧ exec .napOkReceived s = .next (State.settle
        (if s.link.state = .napAsking then s.changeTrunk .nap s.link.cause else s))
      ∧ exec .napRefuseReceived s = .next (State.settle
        (if s.link.state = .napAsking then s.enterUp (some .napRefused) else s))
      ∧ (s.link.stateTimer = some ⟨.napAsk, ms⟩ →
        exec .napAskTimerExpiry s = .next (s.enterUp (some .napTimeout)).settle))

/-- ROUSE, the start of a rouse, the change back to UP with its resolution, and the signals that bring it (R47, R148,
R151, R152, R153, R154, R155). -/
def Obligations.RouseAndItsResolution : Prop :=
  ∀ (s : State) (tag : Byte) (cause : Option TrunkCause),
    let u := s.changeTrunk .rousing (some .host)
    let rousing :=
      { u with
        link :=
          { u.link with
            repeatTimer := some s.port.parameters.helloInterval
            stateTimer := some ⟨.rouse, s.port.parameters.rouseTimeout⟩ }
        transmit :=
          { u.transmit with linkSlot := { u.transmit.linkSlot with standing := some .rouse, due := true } } }
    let waits (c : CircuitId) : Bool :=
      (s.ctx c).state = .waking ∨ ((s.ctx c).state = .quiet ∧ (s.slots c).releaseHeld = true)
    let up := s.enterUp cause
    s.startRouse = rousing
    ∧ s.rouseToUp cause =
        { up with
          circuits := .ofFn fun c =>
            if waits c = true then
              { s.ctx c with
                state := if (s.slots c).releaseHeld = true then .releasing else .connected, lastCause := some .host }
            else s.ctx c
          transmit :=
            { up.transmit with
              slots := .ofFn fun c =>
                if waits c = false then s.slots c
                else if (s.slots c).releaseHeld = true then
                  { s.slots c with request := (s.slots c).request.map fun w => { w with heldForRouse := false } }
                else (s.slots c).placeRequest (s.ctx c) ⟨.wake, (s.ctx c).callNumber, false, false⟩ }
          notices :=
            { up.notices with raised := up.notices.raised ++ (circuitIds.filter waits).map Pair.state } }
    ∧ (PortReady s →
        exec (.rouse tag []) s = .next (State.settle
          (if s.link.state = .nap then rousing.answered .ok tag [] else s.answered .badState tag [])))
    ∧ (s.power = .running →
        exec .rouseReceived s = .next (State.settle
          (match s.link.state with
           | .up => s.answerLink .rouseOk
           | .napAsking => (s.answerLink .rouseOk).enterUp (some .peer)
           | .nap => (s.answerLink .rouseOk).rouseToUp (some .peer)
           | .rousing => (s.answerLink .rouseOk).rouseToUp s.link.cause
           | .down | .training | .retune | .closing | .fault => s))
        ∧ exec .rouseOkReceived s = .next (State.settle
          (if s.link.state = .rousing then s.rouseToUp s.link.cause else s)))

/-- TRUNK-DOWN, DOWN, DOWN-OK and the close timer (R133, R134, R135). -/
def Obligations.OrderlyClose : Prop :=
  ∀ (s : State) (tag : Byte) (ms : Nat),
    let lost := s.trunkLoss .trunkClosed
    let u := lost.changeTrunk .closing (some .host)
    let closing :=
      { u with
        link :=
          { u.link with
            repeatTimer := some s.port.parameters.helloInterval
            stateTimer := some ⟨.close, s.port.parameters.closeTimeout⟩ }
        transmit :=
          { u.transmit with linkSlot := { u.transmit.linkSlot with standing := some .down, due := true } } }
    let down (v : State) (cause : TrunkCause) : State := v.changeTrunk .down (some cause)
    (PortReady s →
      exec (.trunkDown tag []) s = .next (State.settle
        (match s.link.state with
         | .up | .retune | .napAsking | .nap | .rousing => closing.answered .ok tag []
         | .training => (down s .host).answered .ok tag []
         | .fault =>
           if s.link.holdElapsed = true then (down s .host).answered .ok tag [] else s.answered .holding tag []
         | .down | .closing => s.answered .badState tag [])))
    ∧ (s.power = .running →
      exec .downReceived s = .next (State.settle
        (match s.link.state with
         | .up | .retune | .napAsking | .nap | .rousing => down (lost.answerLink .downOk) .peer
         | .closing => down (s.answerLink .downOk) .host
         | .down | .training | .fault => s))
      ∧ exec .downOkReceived s = .next (State.settle (if s.link.state = .closing then down s .host else s))
      ∧ (s.link.stateTimer = some ⟨.close, ms⟩ →
        exec .closeTimerExpiry s = .next (down s .closeTimeout).settle))

/-- Entry to FAULT, a received FAULT, and the end of the hold (R136, R137, R138). -/
def Obligations.FaultHoldsAndEnds : Prop :=
  ∀ (s : State) (cause : TrunkCause) (received : Byte) (ms : Nat),
    let before := if s.link.state = .down ∨ s.link.state = .fault then s else s.trunkLoss .trunkLost
    let u := before.changeTrunk .fault (some cause)
    s.enterFault cause =
      { u with
        link :=
          { u.link with
            repeatTimer := some s.port.parameters.helloInterval
            stateTimer := some ⟨.faultHold, s.port.parameters.faultHold⟩
            faults := min (s.link.faults + 1) 65535 }
        transmit :=
          { u.transmit with
            linkSlot :=
              { u.transmit.linkSlot with standing := some (.fault (trunkCauseCode cause)), due := true } } }
    ∧ (s.power = .running →
      exec (.faultReceived received) s = .next (State.settle
        (if s.link.state ∈ [.down, .fault] then s else s.enterFault .peerFault))
      ∧ (s.link.stateTimer = some ⟨.faultHold, ms⟩ →
        exec .faultHoldExpiry s = .next
          (State.report
            { s with
              link := { s.link with holdElapsed := true, stateTimer := none, repeatTimer := none }
              transmit :=
                { s.transmit with linkSlot := { s.transmit.linkSlot with standing := none, due := false } } }
            .trunkState).settle))

/-! ## Sending -/

/-- What a frame's completion does: the transmitter is idle, and READY, TUNE-OK and NAP-OK move the trunk (R108, R124,
R129, R130, R147). That a completion with no frame on the wire changes nothing is read by inference (log 4). -/
def Obligations.FrameCompletes : Prop :=
  ∀ s : State, s.power = .running →
    let u := { s with transmit := { s.transmit with wire := none } }
    let up := u.enterUp u.link.cause
    let trained :=
      { up with
        link := { up.link with retuneCounter := 0 }
        retry := { up.retry with nextSequence := 0, replayCounter := 0 }
        checker :=
          { up.checker with
            expected := 0, nakOutstanding := false, errorCounter := 0, thresholdReported := false
            errorWindow := some s.port.parameters.errorWindow } }
    let retuned :=
      { up with
        retry :=
          { up.retry with
            replayPointer := if s.retry.entries = [] then none else some 0, replayCounter := 0 } }
    (s.transmit.wire = none → exec .trunkFrameComplete s = .next s.settle)
    ∧ (∀ o f, s.transmit.wire = some ⟨o, f⟩ →
        (f = .signal .ready → s.link.state = .training →
          exec .trunkFrameComplete s = .next (State.settle
            (if s.link.peerHeard = true ∧ s.link.peerReady = true then trained
            else { u with link := { u.link with readySent := true } })))
        ∧ (f = .signal .tuneOk → s.link.state = .retune →
          exec .trunkFrameComplete s = .next (State.settle
            (if s.link.tuneOkReceived = true then retuned
            else { u with link := { u.link with tuneOkSent := true } })))
        ∧ (f = .signal .napOk → s.link.napGranted = true → s.link.state = .up →
          exec .trunkFrameComplete s = .next (State.settle
            (if s.napTest = true then u.changeTrunk .nap (some .peer)
            else { u with link := { u.link with napGranted := false } })))
        ∧ (f = .signal .napOk → s.link.napGranted = true → s.link.state = .napAsking →
          exec .trunkFrameComplete s = .next (u.changeTrunk .nap s.link.cause).settle)
        ∧ (¬ (f = .signal .ready ∧ s.link.state = .training) → ¬ (f = .signal .tuneOk ∧ s.link.state = .retune) →
            ¬ (f = .signal .napOk ∧ s.link.napGranted = true ∧ s.link.state ∈ [.up, .napAsking]) →
          exec .trunkFrameComplete s = .next u.settle))

/-- The replay timer below and at the limit, the error window's close, the repeat timer, and the retune timer below and
at the limit (R84, R95, R106, R118, R131, R132). -/
def Obligations.TransferAndRetuneTimersExpire : Prop :=
  (∀ (s : State) (ms : Nat), s.power = .running →
      let n := s.retry.replayCounter + 1
      (s.retry.replayTimer = some ms → n < s.port.parameters.replayLimit →
        exec .replayTimerExpiry s = .next
          (State.report
            { s with
              retry :=
                { s.retry with
                  replayCounter := n, replayTimer := some s.port.parameters.ackTimeout
                  replayPointer := if s.retry.entries = [] then none else some 0
                  replays := min (s.retry.replays + 1) 65535 } }
            .trunkError).settle)
      ∧ (s.retry.replayTimer = some ms → s.port.parameters.replayLimit ≤ n →
        let stopped := { s with retry := { s.retry with replayCounter := n, replayTimer := none } }
        exec .replayTimerExpiry s = .next
          (if s.link.state = .up then stopped.retuneCause .replayLimit false else stopped).settle)
      ∧ (s.checker.errorWindow = some ms →
        exec .errorWindowExpiry s = .next
          (State.settle
            { s with
              link :=
                { s.link with
                  retuneCounter := if s.checker.thresholdReported = true then s.link.retuneCounter else 0 }
              checker :=
                { s.checker with
                  errorCounter := 0, thresholdReported := false
                  errorWindow := some s.port.parameters.errorWindow } }))
      ∧ (s.link.repeatTimer = some ms →
        exec .repeatTimerExpiry s = .next
          (State.settle
            { s with
              transmit := { s.transmit with linkSlot := { s.transmit.linkSlot with due := true } }
              link := { s.link with repeatTimer := some s.port.parameters.helloInterval } })))
  ∧ (∀ (s : State) (ms : Nat), s.power = .running → s.link.stateTimer = some ⟨.retune, ms⟩ →
      let n := s.link.retuneCounter + 1
      (s.port.parameters.retuneLimit ≤ n →
        exec .retuneTimerExpiry s = .next
          (State.enterFault { s with link := { s.link with retuneCounter := n } } .retuneLimit).settle)
      ∧ (n < s.port.parameters.retuneLimit →
        exec .retuneTimerExpiry s = .next
          (State.report
            { s with
              link :=
                { s.link with
                  retuneCounter := n, tuneHeard := false, tuneOkReceived := false, tuneOkSent := false
                  retunes := min (s.link.retunes + 1) 65535
                  repeatTimer := some s.port.parameters.helloInterval
                  stateTimer := some ⟨.retune, s.port.parameters.retuneTimeout⟩ }
              transmit :=
                { s.transmit with
                  linkSlot := { s.transmit.linkSlot with standing := some .tune, due := true } } }
            .trunkError).settle))

/-- The Arbiter's order of choice under each trunk state, the first word of a circuit, the circuits in turn from the one
after the pointer, and which data cell is eligible (R58, R107, R109 to R113). -/
def Obligations.ArbiterOrder : Prop :=
  ∀ (s : State) (l : Slots),
    let slot := s.transmit.linkSlot
    let link : Option Choice :=
      match slot.answer, slot.standing with
      | some x, _ => some (.linkAnswer x)
      | none, some x => if slot.due = true then some (.linkStanding x) else none
      | none, none => none
    let ackNak := s.transmit.ackNak.map Choice.ackNak
    let replay : Option Choice :=
      s.retry.replayPointer.bind fun i => (s.retry.entries[i]?).map fun e => .resend i e
    let turn (p : CircuitId) : List CircuitId :=
      ([1, 2, 3, 4, 5, 6, 7, 8] : List Nat).map fun k => ⟨(p.val + k) % 8, Nat.mod_lt _ (by decide)⟩
    let words : Option Choice :=
      (turn s.transmit.controlPointer).findSome? fun c => (s.slots c).nextWord.map (Choice.word c)
    let data : Option Choice :=
      (turn s.transmit.dataPointer).findSome? fun c =>
        if ((s.ctx c).state = .connected ∨ (s.ctx c).state = .releasing)
            ∧ (s.ctx c).creditLimit - (s.ctx c).sentCount ≠ 0 then
          (s.cells c).sendQueue.head?.map (Choice.data c)
        else none
    let first : Option Choice :=
      if s.retry.replayPointer = none ∧ s.retry.entries.length < 48 then words <|> data else none
    let request (hang : Bool) : Option Sendable :=
      l.request.bind fun w =>
        if w.heldForDraining = false ∧ w.heldForRouse = false ∧ (decide (w.word = .hang)) = hang then
          some ⟨.request, w.word.toControl, w.callNumber⟩
        else none
    (s.transmit.wire ≠ none → s.arbitrate = s)
    ∧ (s.transmit.wire = none → s.choice = none → s.arbitrate = s)
    ∧ (∀ x, s.transmit.wire = none → s.choice = some x → s.arbitrate = (s.take x).closeClaim)
    ∧ s.choice =
        (match s.link.state with
         | .up => link <|> ackNak <|> replay <|> first
         | .napAsking => link <|> ackNak
         | .down | .training | .retune | .nap | .rousing | .closing | .fault => link)
    ∧ l.nextWord =
        ((l.answer.map fun a => ⟨.answer, a.word.toControl, a.callNumber⟩) <|> request false
          <|> (l.credit.map fun k => ⟨.credit, .credit k.count, k.callNumber⟩) <|> request true)

/-- The trunk pair carries the bytes of the frame in transmission, in the layouts and codes of sections 10.4 and 10.5;
and what taking each kind of frame does: a link signal, ACK or NAK, a resend, a control word, a data cell (R38, R58,
R72, R76, R77, R103, R105 to R108, R112, R113). The bit order of the 32-bit CRC is the model's reading (log 27). -/
def Obligations.TakingAFrame : Prop :=
  (∀ (s : State) (o : Origin) (f : TrunkFrame), s.power = .running →
      let word (w : ControlWord) : Byte × Byte :=
        match w with
        | .dial v => (1, v)
        | .answer v => (2, v)
        | .reject v => (3, v)
        | .hang => (4, 0)
        | .hangDone => (5, 0)
        | .quietAsk => (6, 0)
        | .quietOk => (7, 0)
        | .quietRefuse => (8, 0)
        | .wake => (9, 0)
        | .credit v => (10, v)
      let covered : List Byte :=
        match f with
        | .data q c payload => 1 :: q :: circuitByte c :: count8 payload.length :: payload
        | .control q c w k => [2, q, circuitByte c, (word w).1, k, (word w).2]
        | .signal x =>
          3 ::
            match x with
            | .hello side version circuits capacity => [1, side, version, circuits, capacity]
            | .ready => [2]
            | .ack n => [3, n]
            | .nak n => [4, n]
            | .tune => [5]
            | .tuneOk => [6]
            | .napAsk => [7]
            | .napOk => [8]
            | .napRefuse => [9]
            | .rouse => [10]
            | .rouseOk => [11]
            | .down => [12]
            | .downOk => [13]
            | .fault v => [14, v]
      let check : List Byte :=
        match f with
        | .signal _ => le16 (crc16 covered)
        | .data .. | .control .. => le32 (crc32 covered)
      (s.transmit.wire = none → s.trunkPair = none)
      ∧ (s.transmit.wire = some ⟨o, f⟩ → s.trunkPair = some (covered ++ check)))
  ∧ (∀ (s : State) (x : LinkSignal) (k : AckNak) (i : Nat) (e : RetryEntry),
      let busy (o : Origin) (f : TrunkFrame) : TransmitBlock := { s.transmit with wire := some ⟨o, f⟩ }
      s.take (.linkAnswer x) =
          { s with
            transmit :=
              { busy .linkAnswer (.signal x) with linkSlot := { s.transmit.linkSlot with answer := none } } }
      ∧ s.take (.linkStanding x) =
          { s with
            transmit :=
              { busy .linkStanding (.signal x) with linkSlot := { s.transmit.linkSlot with due := false } } }
      ∧ s.take (.ackNak k) =
          { s with
            transmit :=
              { busy .ackNak (.signal (match k with | .ack n => .ack n | .nak n => .nak n)) with ackNak := none } }
      ∧ s.take (.resend i e) =
          { s with
            transmit :=
              busy .resend
                (match e.content with
                 | .data payload => .data e.sequence e.circuit payload
                 | .control word call => .control e.sequence e.circuit word call)
            retry :=
              { s.retry with
                entries := s.retry.entries.modify i fun e => { e with transmissions := min (e.transmissions + 1) 255 }
                replayPointer := if i + 1 < s.retry.entries.length then some (i + 1) else none } })
  ∧ (∀ (s : State) (c : CircuitId) (w : Sendable) (payload : Payload) (rest : List Payload),
      let k := s.retry.nextSequence
      let x := s.ctx c
      let l := s.slots c
      let numbered (content : EntryContent) : RetryUnit :=
        { s.retry with
          entries := s.retry.entries ++ [⟨k, c, content, 1⟩], nextSequence := k + 1
          replayTimer :=
            if s.retry.entries = [] ∧ s.link.state = .up then some s.port.parameters.ackTimeout
            else s.retry.replayTimer }
      let emptied : Slots :=
        match w.slot with
        | .answer => { l with answer := none }
        | .credit => { l with credit := none }
        | .request => { l with request := l.overflow.map fun m => ⟨.hang, m, false, false⟩, overflow := none }
      let room : Bool := x.refusedMarker = true ∧ rest.length ≤ x.sendDepth / 2
      let sent := { x with sentCount := x.sentCount + 1, refusedMarker := x.refusedMarker && !room }
      let quieting : Bool := rest = [] ∧ x.state = .connected ∧ x.quietMarker = true
      s.take (.word c w) =
        { s with
          retry := numbered (.control w.word w.callNumber)
          transmit :=
            { s.transmit with
              slots := s.transmit.slots.set c emptied, controlPointer := c
              wire := some ⟨.firstControl, .control k c w.word w.callNumber⟩ } }
      ∧ ((s.cells c).sendQueue = payload :: rest →
        s.take (.data c payload) =
          { s with
            retry := numbered (.data payload)
            pool := { s.pool with cells := s.pool.cells.set c { s.cells c with sendQueue := rest } }
            circuits := s.circuits.set c
              (if quieting = true then { sent with state := .quieting, lastCause := some .host } else sent)
            notices :=
              { s.notices with
                raised := s.notices.raised ++ (if room = true then [.room c] else [])
                  ++ if quieting = true then [.state c] else [] }
            transmit :=
              { s.transmit with
                slots :=
                  if rest = [] then
                    s.transmit.slots.set c
                      { l with request := l.request.map fun w => { w with heldForDraining := false } }
                  else s.transmit.slots
                dataPointer := c
                wire := some ⟨.firstData, .data k c payload⟩ } }))

/-! ## Frames -/

/-- Every trunk frame the part can build is read back as its own command: no byte or code of a layout is lost
(R192, R194, section 10.4). The bit order in which the 32-bit CRC is sent is the model's reading (log 27); the round
trip does not rest on it. -/
def Obligations.TrunkFrameRoundTrip : Prop :=
  ∀ f : TrunkFrame,
    (∀ q c payload, f = .data q c payload → 1 ≤ payload.length ∧ payload.length ≤ 64) →
    (∀ side v n k, f = .signal (.hello side v n k) → side = 0 ∨ side = 1) →
    runCommand (trunkFrameBytes f) = frameCommand f

/-! ## Laws that every step keeps -/

/-- Every cell of the pool stays in one of its five places (R51). -/
def Obligations.EveryStepKeepsThePool : Prop :=
  ∀ s t : State, PoolLaw s → step s = .next t → PoolLaw t

/-- The laws of reservations, queues and credit are kept, a send queue within its send depth and a receive queue within
32 cells among them (R55, R56, R61, R69, R70), and so are those of the Host Port's two queues (R178, R180, R190). -/
def Obligations.EveryStepKeepsTheCallLaws : Prop :=
  (∀ s t : State, CallLaw s → step s = .next t → CallLaw t)
  ∧ ∀ s t : State, PortLaw s → step s = .next t → PortLaw t

/-- The laws of the Retry Queue and of its timer are kept (R74 to R77, R83); a state timer in the wrong trunk state is
ruled out by the napping laws. -/
def Obligations.EveryStepKeepsTheRetryLaws : Prop :=
  ∀ s t : State, RetryLaw s → NapLaw s → step s = .next t → RetryLaw t

/-- The laws of the Notice Queue and ATTN are kept (R158, R162, R163). -/
def Obligations.EveryStepKeepsTheNoticeLaws : Prop :=
  ∀ s t : State, NoticeLaw s → step s = .next t → NoticeLaw t

/-- The napping laws are kept (R156). -/
def Obligations.EveryStepKeepsTheNappingLaws : Prop :=
  ∀ s t : State, NapLaw s → step s = .next t → NapLaw t

/-- The part after reset meets every law. -/
def Obligations.ResetMeetsTheLaws : Prop :=
  PoolLaw State.reset ∧ CallLaw State.reset ∧ PortLaw State.reset ∧ RetryLaw State.reset ∧ NoticeLaw State.reset
    ∧ NapLaw State.reset
end

