-- ==== Sys2Proof/Laws/State.lean ====
section
/-!
SUPPORT. What reading gives after writing: one lemma for each field and each update of the state, and the laws of the
eight-fold records.
-/

namespace Sys2Proof.Machine

/-! ## Eight of a kind -/

namespace PerCircuit

variable {α β : Type}

@[simp] theorem get_set (v : PerCircuit α) (c d : CircuitId) (x : α) :
    (v.set c x).get d = if d = c then x else v.get d := by
  fin_cases c <;> fin_cases d <;> rfl

theorem get_set_self (v : PerCircuit α) (c : CircuitId) (x : α) : (v.set c x).get c = x := by simp

theorem get_set_of_ne (v : PerCircuit α) {c d : CircuitId} (h : d ≠ c) (x : α) : (v.set c x).get d = v.get d := by
  simp [h]

@[simp] theorem set_set (v : PerCircuit α) (c : CircuitId) (x y : α) : (v.set c x).set c y = v.set c y := by
  fin_cases c <;> rfl

@[simp] theorem set_get (v : PerCircuit α) (c : CircuitId) : v.set c (v.get c) = v := by
  fin_cases c <;> rfl

@[simp] theorem get_map (v : PerCircuit α) (f : α → β) (c : CircuitId) : (v.map f).get c = f (v.get c) := by
  fin_cases c <;> rfl

@[simp] theorem get_ofFn (f : CircuitId → α) (c : CircuitId) : (ofFn f).get c = f c := by
  fin_cases c <;> rfl

@[simp] theorem get_all (x : α) (c : CircuitId) : (all x).get c = x := by
  fin_cases c <;> rfl

@[ext] theorem ext_get {v w : PerCircuit α} (h : ∀ c, v.get c = w.get c) : v = w := by
  cases v; cases w
  simp only [PerCircuit.mk.injEq]
  exact ⟨h 0, h 1, h 2, h 3, h 4, h 5, h 6, h 7⟩

end PerCircuit

/-! ## One circuit's part of the state -/

@[simp] theorem State.ctx_setCtx (s : State) (c d : CircuitId) (x : Context) :
    (s.setCtx c x).ctx d = if d = c then x else s.ctx d := by simp [State.ctx, State.setCtx]

@[simp] theorem State.cells_setCells (s : State) (c d : CircuitId) (x : Cells) :
    (s.setCells c x).cells d = if d = c then x else s.cells d := by simp [State.cells, State.setCells]

@[simp] theorem State.slots_setSlots (s : State) (c d : CircuitId) (x : Slots) :
    (s.setSlots c x).slots d = if d = c then x else s.slots d := by simp [State.slots, State.setSlots]

@[simp] theorem State.setCtx_setCtx (s : State) (c : CircuitId) (x y : Context) :
    (s.setCtx c x).setCtx c y = s.setCtx c y := by simp [State.setCtx]

@[simp] theorem State.setCells_setCells (s : State) (c : CircuitId) (x y : Cells) :
    (s.setCells c x).setCells c y = s.setCells c y := by simp [State.setCells]

@[simp] theorem State.setSlots_setSlots (s : State) (c : CircuitId) (x y : Slots) :
    (s.setSlots c x).setSlots c y = s.setSlots c y := by simp [State.setSlots]

/-! ## Every update, field by field -/

@[simp] theorem State.setCtx_power (s : State) (c : CircuitId) (x : Context) : (s.setCtx c x).power = s.power := rfl
@[simp] theorem State.setCtx_circuits (s : State) (c : CircuitId) (x : Context) :
    (s.setCtx c x).circuits = s.circuits.set c x := rfl
@[simp] theorem State.setCtx_pool (s : State) (c : CircuitId) (x : Context) : (s.setCtx c x).pool = s.pool := rfl
@[simp] theorem State.setCtx_retry (s : State) (c : CircuitId) (x : Context) : (s.setCtx c x).retry = s.retry := rfl
@[simp] theorem State.setCtx_checker (s : State) (c : CircuitId) (x : Context) :
    (s.setCtx c x).checker = s.checker := rfl
@[simp] theorem State.setCtx_transmit (s : State) (c : CircuitId) (x : Context) :
    (s.setCtx c x).transmit = s.transmit := rfl
@[simp] theorem State.setCtx_link (s : State) (c : CircuitId) (x : Context) : (s.setCtx c x).link = s.link := rfl
@[simp] theorem State.setCtx_notices (s : State) (c : CircuitId) (x : Context) :
    (s.setCtx c x).notices = s.notices := rfl
@[simp] theorem State.setCtx_port (s : State) (c : CircuitId) (x : Context) : (s.setCtx c x).port = s.port := rfl
@[simp] theorem State.setCtx_pending (s : State) (c : CircuitId) (x : Context) :
    (s.setCtx c x).pending = s.pending := rfl
@[simp] theorem State.setCtx_cells (s : State) (c : CircuitId) (x : Context) (d : CircuitId) :
    (s.setCtx c x).cells d = s.cells d := rfl
@[simp] theorem State.setCtx_slots (s : State) (c : CircuitId) (x : Context) (d : CircuitId) :
    (s.setCtx c x).slots d = s.slots d := rfl

@[simp] theorem State.setCells_power (s : State) (c : CircuitId) (x : Cells) : (s.setCells c x).power = s.power := rfl
@[simp] theorem State.setCells_circuits (s : State) (c : CircuitId) (x : Cells) :
    (s.setCells c x).circuits = s.circuits := rfl
@[simp] theorem State.setCells_pool (s : State) (c : CircuitId) (x : Cells) :
    (s.setCells c x).pool = { s.pool with cells := s.pool.cells.set c x } := rfl
@[simp] theorem State.setCells_retry (s : State) (c : CircuitId) (x : Cells) : (s.setCells c x).retry = s.retry := rfl
@[simp] theorem State.setCells_checker (s : State) (c : CircuitId) (x : Cells) :
    (s.setCells c x).checker = s.checker := rfl
@[simp] theorem State.setCells_transmit (s : State) (c : CircuitId) (x : Cells) :
    (s.setCells c x).transmit = s.transmit := rfl
@[simp] theorem State.setCells_link (s : State) (c : CircuitId) (x : Cells) : (s.setCells c x).link = s.link := rfl
@[simp] theorem State.setCells_notices (s : State) (c : CircuitId) (x : Cells) :
    (s.setCells c x).notices = s.notices := rfl
@[simp] theorem State.setCells_port (s : State) (c : CircuitId) (x : Cells) : (s.setCells c x).port = s.port := rfl
@[simp] theorem State.setCells_pending (s : State) (c : CircuitId) (x : Cells) :
    (s.setCells c x).pending = s.pending := rfl
@[simp] theorem State.setCells_ctx (s : State) (c : CircuitId) (x : Cells) (d : CircuitId) :
    (s.setCells c x).ctx d = s.ctx d := rfl
@[simp] theorem State.setCells_slots (s : State) (c : CircuitId) (x : Cells) (d : CircuitId) :
    (s.setCells c x).slots d = s.slots d := rfl

@[simp] theorem State.setSlots_power (s : State) (c : CircuitId) (x : Slots) : (s.setSlots c x).power = s.power := rfl
@[simp] theorem State.setSlots_circuits (s : State) (c : CircuitId) (x : Slots) :
    (s.setSlots c x).circuits = s.circuits := rfl
@[simp] theorem State.setSlots_pool (s : State) (c : CircuitId) (x : Slots) : (s.setSlots c x).pool = s.pool := rfl
@[simp] theorem State.setSlots_retry (s : State) (c : CircuitId) (x : Slots) : (s.setSlots c x).retry = s.retry := rfl
@[simp] theorem State.setSlots_checker (s : State) (c : CircuitId) (x : Slots) :
    (s.setSlots c x).checker = s.checker := rfl
@[simp] theorem State.setSlots_transmit (s : State) (c : CircuitId) (x : Slots) :
    (s.setSlots c x).transmit = { s.transmit with slots := s.transmit.slots.set c x } := rfl
@[simp] theorem State.setSlots_link (s : State) (c : CircuitId) (x : Slots) : (s.setSlots c x).link = s.link := rfl
@[simp] theorem State.setSlots_notices (s : State) (c : CircuitId) (x : Slots) :
    (s.setSlots c x).notices = s.notices := rfl
@[simp] theorem State.setSlots_port (s : State) (c : CircuitId) (x : Slots) : (s.setSlots c x).port = s.port := rfl
@[simp] theorem State.setSlots_pending (s : State) (c : CircuitId) (x : Slots) :
    (s.setSlots c x).pending = s.pending := rfl
@[simp] theorem State.setSlots_ctx (s : State) (c : CircuitId) (x : Slots) (d : CircuitId) :
    (s.setSlots c x).ctx d = s.ctx d := rfl
@[simp] theorem State.setSlots_cells (s : State) (c : CircuitId) (x : Slots) (d : CircuitId) :
    (s.setSlots c x).cells d = s.cells d := rfl

@[simp] theorem State.report_power (s : State) (p : Pair) : (s.report p).power = s.power := rfl
@[simp] theorem State.report_circuits (s : State) (p : Pair) : (s.report p).circuits = s.circuits := rfl
@[simp] theorem State.report_pool (s : State) (p : Pair) : (s.report p).pool = s.pool := rfl
@[simp] theorem State.report_retry (s : State) (p : Pair) : (s.report p).retry = s.retry := rfl
@[simp] theorem State.report_checker (s : State) (p : Pair) : (s.report p).checker = s.checker := rfl
@[simp] theorem State.report_transmit (s : State) (p : Pair) : (s.report p).transmit = s.transmit := rfl
@[simp] theorem State.report_link (s : State) (p : Pair) : (s.report p).link = s.link := rfl
@[simp] theorem State.report_notices (s : State) (p : Pair) :
    (s.report p).notices = { s.notices with raised := s.notices.raised ++ [p] } := rfl
@[simp] theorem State.report_port (s : State) (p : Pair) : (s.report p).port = s.port := rfl
@[simp] theorem State.report_pending (s : State) (p : Pair) : (s.report p).pending = s.pending := rfl
@[simp] theorem State.report_ctx (s : State) (p : Pair) (d : CircuitId) : (s.report p).ctx d = s.ctx d := rfl
@[simp] theorem State.report_cells (s : State) (p : Pair) (d : CircuitId) : (s.report p).cells d = s.cells d := rfl
@[simp] theorem State.report_slots (s : State) (p : Pair) (d : CircuitId) : (s.report p).slots d = s.slots d := rfl

@[simp] theorem State.closeClaim_power (s : State) : (s.closeClaim).power = s.power := rfl
@[simp] theorem State.closeClaim_circuits (s : State) : (s.closeClaim).circuits = s.circuits := rfl
@[simp] theorem State.closeClaim_pool (s : State) : (s.closeClaim).pool = s.pool := rfl
@[simp] theorem State.closeClaim_retry (s : State) : (s.closeClaim).retry = s.retry := rfl
@[simp] theorem State.closeClaim_checker (s : State) : (s.closeClaim).checker = s.checker := rfl
@[simp] theorem State.closeClaim_transmit (s : State) : (s.closeClaim).transmit = s.transmit := rfl
@[simp] theorem State.closeClaim_link (s : State) : (s.closeClaim).link = s.link := rfl
@[simp] theorem State.closeClaim_notices (s : State) :
    (s.closeClaim).notices = s.notices.takeRaised := rfl
@[simp] theorem State.closeClaim_port (s : State) : (s.closeClaim).port = s.port := rfl
@[simp] theorem State.closeClaim_pending (s : State) : (s.closeClaim).pending = s.pending := rfl
@[simp] theorem State.closeClaim_ctx (s : State) (d : CircuitId) : (s.closeClaim).ctx d = s.ctx d := rfl
@[simp] theorem State.closeClaim_cells (s : State) (d : CircuitId) : (s.closeClaim).cells d = s.cells d := rfl
@[simp] theorem State.closeClaim_slots (s : State) (d : CircuitId) : (s.closeClaim).slots d = s.slots d := rfl

@[simp] theorem State.setIntake_power (s : State) (q : List HostFrame) : (s.setIntake q).power = s.power := rfl
@[simp] theorem State.setIntake_circuits (s : State) (q : List HostFrame) :
    (s.setIntake q).circuits = s.circuits := rfl
@[simp] theorem State.setIntake_pool (s : State) (q : List HostFrame) : (s.setIntake q).pool = s.pool := rfl
@[simp] theorem State.setIntake_retry (s : State) (q : List HostFrame) : (s.setIntake q).retry = s.retry := rfl
@[simp] theorem State.setIntake_checker (s : State) (q : List HostFrame) : (s.setIntake q).checker = s.checker := rfl
@[simp] theorem State.setIntake_transmit (s : State) (q : List HostFrame) :
    (s.setIntake q).transmit = s.transmit := rfl
@[simp] theorem State.setIntake_link (s : State) (q : List HostFrame) : (s.setIntake q).link = s.link := rfl
@[simp] theorem State.setIntake_notices (s : State) (q : List HostFrame) : (s.setIntake q).notices = s.notices := rfl
@[simp] theorem State.setIntake_port (s : State) (q : List HostFrame) :
    (s.setIntake q).port = { s.port with intake := q } := rfl
@[simp] theorem State.setIntake_pending (s : State) (q : List HostFrame) : (s.setIntake q).pending = s.pending := rfl
@[simp] theorem State.setIntake_ctx (s : State) (q : List HostFrame) (d : CircuitId) :
    (s.setIntake q).ctx d = s.ctx d := rfl
@[simp] theorem State.setIntake_cells (s : State) (q : List HostFrame) (d : CircuitId) :
    (s.setIntake q).cells d = s.cells d := rfl
@[simp] theorem State.setIntake_slots (s : State) (q : List HostFrame) (d : CircuitId) :
    (s.setIntake q).slots d = s.slots d := rfl

@[simp] theorem State.setFramer_power (s : State) (f : Framer) : (s.setFramer f).power = s.power := rfl
@[simp] theorem State.setFramer_circuits (s : State) (f : Framer) : (s.setFramer f).circuits = s.circuits := rfl
@[simp] theorem State.setFramer_pool (s : State) (f : Framer) : (s.setFramer f).pool = s.pool := rfl
@[simp] theorem State.setFramer_retry (s : State) (f : Framer) : (s.setFramer f).retry = s.retry := rfl
@[simp] theorem State.setFramer_checker (s : State) (f : Framer) : (s.setFramer f).checker = s.checker := rfl
@[simp] theorem State.setFramer_transmit (s : State) (f : Framer) : (s.setFramer f).transmit = s.transmit := rfl
@[simp] theorem State.setFramer_link (s : State) (f : Framer) : (s.setFramer f).link = s.link := rfl
@[simp] theorem State.setFramer_notices (s : State) (f : Framer) : (s.setFramer f).notices = s.notices := rfl
@[simp] theorem State.setFramer_port (s : State) (f : Framer) :
    (s.setFramer f).port = { s.port with framer := f } := rfl
@[simp] theorem State.setFramer_pending (s : State) (f : Framer) : (s.setFramer f).pending = s.pending := rfl
@[simp] theorem State.setFramer_ctx (s : State) (f : Framer) (d : CircuitId) : (s.setFramer f).ctx d = s.ctx d := rfl
@[simp] theorem State.setFramer_cells (s : State) (f : Framer) (d : CircuitId) :
    (s.setFramer f).cells d = s.cells d := rfl
@[simp] theorem State.setFramer_slots (s : State) (f : Framer) (d : CircuitId) :
    (s.setFramer f).slots d = s.slots d := rfl

@[simp] theorem State.answered_power (s : State) (st : Status) (tag : Byte) (b : List Byte) :
    (s.answered st tag b).power = s.power := rfl
@[simp] theorem State.answered_circuits (s : State) (st : Status) (tag : Byte) (b : List Byte) :
    (s.answered st tag b).circuits = s.circuits := rfl
@[simp] theorem State.answered_pool (s : State) (st : Status) (tag : Byte) (b : List Byte) :
    (s.answered st tag b).pool = s.pool := rfl
@[simp] theorem State.answered_retry (s : State) (st : Status) (tag : Byte) (b : List Byte) :
    (s.answered st tag b).retry = s.retry := rfl
@[simp] theorem State.answered_checker (s : State) (st : Status) (tag : Byte) (b : List Byte) :
    (s.answered st tag b).checker = s.checker := rfl
@[simp] theorem State.answered_transmit (s : State) (st : Status) (tag : Byte) (b : List Byte) :
    (s.answered st tag b).transmit = s.transmit := rfl
@[simp] theorem State.answered_link (s : State) (st : Status) (tag : Byte) (b : List Byte) :
    (s.answered st tag b).link = s.link := rfl
@[simp] theorem State.answered_notices (s : State) (st : Status) (tag : Byte) (b : List Byte) :
    (s.answered st tag b).notices = s.notices := rfl
@[simp] theorem State.answered_port (s : State) (st : Status) (tag : Byte) (b : List Byte) :
    (s.answered st tag b).port = { s.port with replies := s.port.replies ++ [⟨st, tag, b⟩] } := rfl
@[simp] theorem State.answered_pending (s : State) (st : Status) (tag : Byte) (b : List Byte) :
    (s.answered st tag b).pending = s.pending := rfl
@[simp] theorem State.answered_ctx (s : State) (st : Status) (tag : Byte) (b : List Byte) (d : CircuitId) :
    (s.answered st tag b).ctx d = s.ctx d := rfl
@[simp] theorem State.answered_cells (s : State) (st : Status) (tag : Byte) (b : List Byte) (d : CircuitId) :
    (s.answered st tag b).cells d = s.cells d := rfl
@[simp] theorem State.answered_slots (s : State) (st : Status) (tag : Byte) (b : List Byte) (d : CircuitId) :
    (s.answered st tag b).slots d = s.slots d := rfl

@[simp] theorem State.stand_power (s : State) (x : LinkSignal) : (s.stand x).power = s.power := rfl
@[simp] theorem State.stand_circuits (s : State) (x : LinkSignal) : (s.stand x).circuits = s.circuits := rfl
@[simp] theorem State.stand_pool (s : State) (x : LinkSignal) : (s.stand x).pool = s.pool := rfl
@[simp] theorem State.stand_retry (s : State) (x : LinkSignal) : (s.stand x).retry = s.retry := rfl
@[simp] theorem State.stand_checker (s : State) (x : LinkSignal) : (s.stand x).checker = s.checker := rfl
@[simp] theorem State.stand_transmit (s : State) (x : LinkSignal) :
    (s.stand x).transmit =
      { s.transmit with linkSlot := { s.transmit.linkSlot with standing := some x, due := true } } := rfl
@[simp] theorem State.stand_link (s : State) (x : LinkSignal) :
    (s.stand x).link = { s.link with repeatTimer := some s.port.parameters.helloInterval } := rfl
@[simp] theorem State.stand_notices (s : State) (x : LinkSignal) : (s.stand x).notices = s.notices := rfl
@[simp] theorem State.stand_port (s : State) (x : LinkSignal) : (s.stand x).port = s.port := rfl
@[simp] theorem State.stand_pending (s : State) (x : LinkSignal) : (s.stand x).pending = s.pending := rfl
@[simp] theorem State.stand_ctx (s : State) (x : LinkSignal) (d : CircuitId) : (s.stand x).ctx d = s.ctx d := rfl
@[simp] theorem State.stand_cells (s : State) (x : LinkSignal) (d : CircuitId) :
    (s.stand x).cells d = s.cells d := rfl
@[simp] theorem State.stand_slots (s : State) (x : LinkSignal) (d : CircuitId) :
    (s.stand x).slots d = s.slots d := rfl

@[simp] theorem State.noStanding_power (s : State) : (s.noStanding).power = s.power := rfl
@[simp] theorem State.noStanding_circuits (s : State) : (s.noStanding).circuits = s.circuits := rfl
@[simp] theorem State.noStanding_pool (s : State) : (s.noStanding).pool = s.pool := rfl
@[simp] theorem State.noStanding_retry (s : State) : (s.noStanding).retry = s.retry := rfl
@[simp] theorem State.noStanding_checker (s : State) : (s.noStanding).checker = s.checker := rfl
@[simp] theorem State.noStanding_transmit (s : State) :
    (s.noStanding).transmit =
      { s.transmit with linkSlot := { s.transmit.linkSlot with standing := none, due := false } } := rfl
@[simp] theorem State.noStanding_link (s : State) :
    (s.noStanding).link = { s.link with repeatTimer := none } := rfl
@[simp] theorem State.noStanding_notices (s : State) : (s.noStanding).notices = s.notices := rfl
@[simp] theorem State.noStanding_port (s : State) : (s.noStanding).port = s.port := rfl
@[simp] theorem State.noStanding_pending (s : State) : (s.noStanding).pending = s.pending := rfl
@[simp] theorem State.noStanding_ctx (s : State) (d : CircuitId) : (s.noStanding).ctx d = s.ctx d := rfl
@[simp] theorem State.noStanding_cells (s : State) (d : CircuitId) : (s.noStanding).cells d = s.cells d := rfl
@[simp] theorem State.noStanding_slots (s : State) (d : CircuitId) : (s.noStanding).slots d = s.slots d := rfl

@[simp] theorem State.answerLink_power (s : State) (x : LinkSignal) : (s.answerLink x).power = s.power := rfl
@[simp] theorem State.answerLink_circuits (s : State) (x : LinkSignal) : (s.answerLink x).circuits = s.circuits := rfl
@[simp] theorem State.answerLink_pool (s : State) (x : LinkSignal) : (s.answerLink x).pool = s.pool := rfl
@[simp] theorem State.answerLink_retry (s : State) (x : LinkSignal) : (s.answerLink x).retry = s.retry := rfl
@[simp] theorem State.answerLink_checker (s : State) (x : LinkSignal) : (s.answerLink x).checker = s.checker := rfl
@[simp] theorem State.answerLink_transmit (s : State) (x : LinkSignal) :
    (s.answerLink x).transmit = { s.transmit with linkSlot := { s.transmit.linkSlot with answer := some x } } := rfl
@[simp] theorem State.answerLink_link (s : State) (x : LinkSignal) : (s.answerLink x).link = s.link := rfl
@[simp] theorem State.answerLink_notices (s : State) (x : LinkSignal) : (s.answerLink x).notices = s.notices := rfl
@[simp] theorem State.answerLink_port (s : State) (x : LinkSignal) : (s.answerLink x).port = s.port := rfl
@[simp] theorem State.answerLink_pending (s : State) (x : LinkSignal) : (s.answerLink x).pending = s.pending := rfl
@[simp] theorem State.answerLink_ctx (s : State) (x : LinkSignal) (d : CircuitId) :
    (s.answerLink x).ctx d = s.ctx d := rfl
@[simp] theorem State.answerLink_cells (s : State) (x : LinkSignal) (d : CircuitId) :
    (s.answerLink x).cells d = s.cells d := rfl
@[simp] theorem State.answerLink_slots (s : State) (x : LinkSignal) (d : CircuitId) :
    (s.answerLink x).slots d = s.slots d := rfl

@[simp] theorem State.startTimer_power (s : State) (k : StateTimerKind) (ms : Nat) :
    (s.startTimer k ms).power = s.power := rfl
@[simp] theorem State.startTimer_circuits (s : State) (k : StateTimerKind) (ms : Nat) :
    (s.startTimer k ms).circuits = s.circuits := rfl
@[simp] theorem State.startTimer_pool (s : State) (k : StateTimerKind) (ms : Nat) :
    (s.startTimer k ms).pool = s.pool := rfl
@[simp] theorem State.startTimer_retry (s : State) (k : StateTimerKind) (ms : Nat) :
    (s.startTimer k ms).retry = s.retry := rfl
@[simp] theorem State.startTimer_checker (s : State) (k : StateTimerKind) (ms : Nat) :
    (s.startTimer k ms).checker = s.checker := rfl
@[simp] theorem State.startTimer_transmit (s : State) (k : StateTimerKind) (ms : Nat) :
    (s.startTimer k ms).transmit = s.transmit := rfl
@[simp] theorem State.startTimer_link (s : State) (k : StateTimerKind) (ms : Nat) :
    (s.startTimer k ms).link = { s.link with stateTimer := some ⟨k, ms⟩ } := rfl
@[simp] theorem State.startTimer_notices (s : State) (k : StateTimerKind) (ms : Nat) :
    (s.startTimer k ms).notices = s.notices := rfl
@[simp] theorem State.startTimer_port (s : State) (k : StateTimerKind) (ms : Nat) :
    (s.startTimer k ms).port = s.port := rfl
@[simp] theorem State.startTimer_pending (s : State) (k : StateTimerKind) (ms : Nat) :
    (s.startTimer k ms).pending = s.pending := rfl
@[simp] theorem State.startTimer_ctx (s : State) (k : StateTimerKind) (ms : Nat) (d : CircuitId) :
    (s.startTimer k ms).ctx d = s.ctx d := rfl
@[simp] theorem State.startTimer_cells (s : State) (k : StateTimerKind) (ms : Nat) (d : CircuitId) :
    (s.startTimer k ms).cells d = s.cells d := rfl
@[simp] theorem State.startTimer_slots (s : State) (k : StateTimerKind) (ms : Nat) (d : CircuitId) :
    (s.startTimer k ms).slots d = s.slots d := rfl

@[simp] theorem State.post_power (s : State) (x : AckNak) : (s.post x).power = s.power := rfl
@[simp] theorem State.post_circuits (s : State) (x : AckNak) : (s.post x).circuits = s.circuits := rfl
@[simp] theorem State.post_pool (s : State) (x : AckNak) : (s.post x).pool = s.pool := rfl
@[simp] theorem State.post_retry (s : State) (x : AckNak) : (s.post x).retry = s.retry := rfl
@[simp] theorem State.post_checker (s : State) (x : AckNak) : (s.post x).checker = s.checker := rfl
@[simp] theorem State.post_transmit (s : State) (x : AckNak) :
    (s.post x).transmit = { s.transmit with ackNak := some x } := rfl
@[simp] theorem State.post_link (s : State) (x : AckNak) : (s.post x).link = s.link := rfl
@[simp] theorem State.post_notices (s : State) (x : AckNak) : (s.post x).notices = s.notices := rfl
@[simp] theorem State.post_port (s : State) (x : AckNak) : (s.post x).port = s.port := rfl
@[simp] theorem State.post_pending (s : State) (x : AckNak) : (s.post x).pending = s.pending := rfl
@[simp] theorem State.post_ctx (s : State) (x : AckNak) (d : CircuitId) : (s.post x).ctx d = s.ctx d := rfl
@[simp] theorem State.post_cells (s : State) (x : AckNak) (d : CircuitId) : (s.post x).cells d = s.cells d := rfl
@[simp] theorem State.post_slots (s : State) (x : AckNak) (d : CircuitId) : (s.post x).slots d = s.slots d := rfl

@[simp] theorem State.send_power (s : State) (o : Origin) (f : TrunkFrame) : (s.send o f).power = s.power := rfl
@[simp] theorem State.send_circuits (s : State) (o : Origin) (f : TrunkFrame) :
    (s.send o f).circuits = s.circuits := rfl
@[simp] theorem State.send_pool (s : State) (o : Origin) (f : TrunkFrame) : (s.send o f).pool = s.pool := rfl
@[simp] theorem State.send_retry (s : State) (o : Origin) (f : TrunkFrame) : (s.send o f).retry = s.retry := rfl
@[simp] theorem State.send_checker (s : State) (o : Origin) (f : TrunkFrame) : (s.send o f).checker = s.checker := rfl
@[simp] theorem State.send_transmit (s : State) (o : Origin) (f : TrunkFrame) :
    (s.send o f).transmit = { s.transmit with wire := some ⟨o, f⟩ } := rfl
@[simp] theorem State.send_link (s : State) (o : Origin) (f : TrunkFrame) : (s.send o f).link = s.link := rfl
@[simp] theorem State.send_notices (s : State) (o : Origin) (f : TrunkFrame) : (s.send o f).notices = s.notices := rfl
@[simp] theorem State.send_port (s : State) (o : Origin) (f : TrunkFrame) : (s.send o f).port = s.port := rfl
@[simp] theorem State.send_pending (s : State) (o : Origin) (f : TrunkFrame) : (s.send o f).pending = s.pending := rfl
@[simp] theorem State.send_ctx (s : State) (o : Origin) (f : TrunkFrame) (d : CircuitId) :
    (s.send o f).ctx d = s.ctx d := rfl
@[simp] theorem State.send_cells (s : State) (o : Origin) (f : TrunkFrame) (d : CircuitId) :
    (s.send o f).cells d = s.cells d := rfl
@[simp] theorem State.send_slots (s : State) (o : Origin) (f : TrunkFrame) (d : CircuitId) :
    (s.send o f).slots d = s.slots d := rfl

@[simp] theorem State.countStray_power (s : State) : (s.countStray).power = s.power := rfl
@[simp] theorem State.countStray_circuits (s : State) : (s.countStray).circuits = s.circuits := rfl
@[simp] theorem State.countStray_pool (s : State) : (s.countStray).pool = s.pool := rfl
@[simp] theorem State.countStray_retry (s : State) :
    (s.countStray).retry = { s.retry with straySignals := addToCounter s.retry.straySignals 1 } := rfl
@[simp] theorem State.countStray_checker (s : State) : (s.countStray).checker = s.checker := rfl
@[simp] theorem State.countStray_transmit (s : State) : (s.countStray).transmit = s.transmit := rfl
@[simp] theorem State.countStray_link (s : State) : (s.countStray).link = s.link := rfl
@[simp] theorem State.countStray_notices (s : State) : (s.countStray).notices = s.notices := rfl
@[simp] theorem State.countStray_port (s : State) : (s.countStray).port = s.port := rfl
@[simp] theorem State.countStray_pending (s : State) : (s.countStray).pending = s.pending := rfl
@[simp] theorem State.countStray_ctx (s : State) (d : CircuitId) : (s.countStray).ctx d = s.ctx d := rfl
@[simp] theorem State.countStray_cells (s : State) (d : CircuitId) : (s.countStray).cells d = s.cells d := rfl
@[simp] theorem State.countStray_slots (s : State) (d : CircuitId) : (s.countStray).slots d = s.slots d := rfl

@[simp] theorem State.countBadWord_power (s : State) : (s.countBadWord).power = s.power := rfl
@[simp] theorem State.countBadWord_circuits (s : State) : (s.countBadWord).circuits = s.circuits := rfl
@[simp] theorem State.countBadWord_pool (s : State) :
    (s.countBadWord).pool = { s.pool with badWords := addToCounter s.pool.badWords 1 } := rfl
@[simp] theorem State.countBadWord_retry (s : State) : (s.countBadWord).retry = s.retry := rfl
@[simp] theorem State.countBadWord_checker (s : State) : (s.countBadWord).checker = s.checker := rfl
@[simp] theorem State.countBadWord_transmit (s : State) : (s.countBadWord).transmit = s.transmit := rfl
@[simp] theorem State.countBadWord_link (s : State) : (s.countBadWord).link = s.link := rfl
@[simp] theorem State.countBadWord_notices (s : State) : (s.countBadWord).notices = s.notices := rfl
@[simp] theorem State.countBadWord_port (s : State) : (s.countBadWord).port = s.port := rfl
@[simp] theorem State.countBadWord_pending (s : State) : (s.countBadWord).pending = s.pending := rfl
@[simp] theorem State.countBadWord_ctx (s : State) (d : CircuitId) : (s.countBadWord).ctx d = s.ctx d := rfl
@[simp] theorem State.countBadWord_cells (s : State) (d : CircuitId) : (s.countBadWord).cells d = s.cells d := rfl
@[simp] theorem State.countBadWord_slots (s : State) (d : CircuitId) : (s.countBadWord).slots d = s.slots d := rfl

@[simp] theorem State.discardStale_power (s : State) : (s.discardStale).power = s.power := rfl
@[simp] theorem State.discardStale_circuits (s : State) : (s.discardStale).circuits = s.circuits := rfl
@[simp] theorem State.discardStale_pool (s : State) :
    (s.discardStale).pool = { s.pool with staleCells := addToCounter s.pool.staleCells 1 } := rfl
@[simp] theorem State.discardStale_retry (s : State) : (s.discardStale).retry = s.retry := rfl
@[simp] theorem State.discardStale_checker (s : State) : (s.discardStale).checker = s.checker := rfl
@[simp] theorem State.discardStale_transmit (s : State) : (s.discardStale).transmit = s.transmit := rfl
@[simp] theorem State.discardStale_link (s : State) : (s.discardStale).link = s.link := rfl
@[simp] theorem State.discardStale_notices (s : State) : (s.discardStale).notices = s.notices := rfl
@[simp] theorem State.discardStale_port (s : State) : (s.discardStale).port = s.port := rfl
@[simp] theorem State.discardStale_pending (s : State) : (s.discardStale).pending = s.pending := rfl
@[simp] theorem State.discardStale_ctx (s : State) (d : CircuitId) : (s.discardStale).ctx d = s.ctx d := rfl
@[simp] theorem State.discardStale_cells (s : State) (d : CircuitId) : (s.discardStale).cells d = s.cells d := rfl
@[simp] theorem State.discardStale_slots (s : State) (d : CircuitId) : (s.discardStale).slots d = s.slots d := rfl

@[simp] theorem State.freeingEvent_power (s : State) : (s.freeingEvent).power = s.power := rfl
@[simp] theorem State.freeingEvent_circuits (s : State) :
    (s.freeingEvent).circuits = s.circuits.map fun x => { x with refusedMarker := false } := rfl
@[simp] theorem State.freeingEvent_pool (s : State) : (s.freeingEvent).pool = s.pool := rfl
@[simp] theorem State.freeingEvent_retry (s : State) : (s.freeingEvent).retry = s.retry := rfl
@[simp] theorem State.freeingEvent_checker (s : State) : (s.freeingEvent).checker = s.checker := rfl
@[simp] theorem State.freeingEvent_transmit (s : State) : (s.freeingEvent).transmit = s.transmit := rfl
@[simp] theorem State.freeingEvent_link (s : State) : (s.freeingEvent).link = s.link := rfl
@[simp] theorem State.freeingEvent_notices (s : State) :
    (s.freeingEvent).notices =
      { s.notices with
        raised := s.notices.raised ++ (circuitIds.filter fun c => (s.ctx c).refusedMarker).map Pair.room } := rfl
@[simp] theorem State.freeingEvent_port (s : State) : (s.freeingEvent).port = s.port := rfl
@[simp] theorem State.freeingEvent_pending (s : State) : (s.freeingEvent).pending = s.pending := rfl
@[simp] theorem State.freeingEvent_cells (s : State) (d : CircuitId) : (s.freeingEvent).cells d = s.cells d := rfl
@[simp] theorem State.freeingEvent_slots (s : State) (d : CircuitId) : (s.freeingEvent).slots d = s.slots d := rfl

@[simp] theorem State.freeingEvent_ctx (s : State) (d : CircuitId) :
    s.freeingEvent.ctx d = { s.ctx d with refusedMarker := false } := by
  simp [State.ctx, State.freeingEvent]

@[simp] theorem State.hold_power (s : State) : s.hold.power = .held := rfl
@[simp] theorem State.hold_circuits (s : State) : s.hold.circuits = s.circuits.map Context.stopTimers := rfl
@[simp] theorem State.hold_pool (s : State) : s.hold.pool = s.pool := rfl
@[simp] theorem State.hold_retry (s : State) : s.hold.retry = { s.retry with replayTimer := none } := rfl
@[simp] theorem State.hold_checker (s : State) : s.hold.checker = { s.checker with errorWindow := none } := rfl
@[simp] theorem State.hold_transmit (s : State) : s.hold.transmit = { s.transmit with wire := none } := rfl
@[simp] theorem State.hold_link (s : State) :
    s.hold.link = { s.link with repeatTimer := none, stateTimer := none } := rfl
@[simp] theorem State.hold_notices (s : State) : s.hold.notices = { s.notices with attn := false } := rfl
@[simp] theorem State.hold_port (s : State) :
    s.hold.port = { s.port with framer := .hunting, replies := [] } := rfl
@[simp] theorem State.hold_pending (s : State) : s.hold.pending = s.pending := rfl
@[simp] theorem State.hold_ctx (s : State) (d : CircuitId) : s.hold.ctx d = (s.ctx d).stopTimers := by
  simp [State.ctx]
@[simp] theorem State.hold_cells (s : State) (d : CircuitId) : s.hold.cells d = s.cells d := rfl
@[simp] theorem State.hold_slots (s : State) (d : CircuitId) : s.hold.slots d = s.slots d := rfl

end Sys2Proof.Machine
end

