-- ==== Sys2Proof/Laws/Ops.lean ====
section
/-!
SUPPORT. What each shared operation can do, said once: circuits, cells, slots, acknowledgements, the Arbiter and the
end of a claim.
-/

namespace Sys2Proof.Machine

/-! ## What no operation of the blocks touches -/

/-- The host port, the power and the waiting commands of two states agree. -/
structure SameOutside (s t : State) : Prop where
  power : t.power = s.power
  port : t.port = s.port
  pending : t.pending = s.pending

theorem SameOutside.refl (s : State) : SameOutside s s := ⟨rfl, rfl, rfl⟩

theorem SameOutside.trans {s t u : State} (h : SameOutside s t) (k : SameOutside t u) : SameOutside s u :=
  ⟨k.power.trans h.power, k.port.trans h.port, k.pending.trans h.pending⟩

theorem State.releaseCells_same (s : State) (n : Nat) : SameOutside s (s.releaseCells n) := by
  unfold State.releaseCells
  split
  · exact .refl s
  · exact ⟨rfl, rfl, rfl⟩

theorem SameOutside.released {s t : State} (h : SameOutside s t) (n : Nat) : SameOutside s (t.releaseCells n) :=
  h.trans (t.releaseCells_same n)

theorem State.sendQueueShortened_same (s : State) (c : CircuitId) : SameOutside s (s.sendQueueShortened c) := by
  unfold State.sendQueueShortened
  split
  · exact ⟨rfl, rfl, rfl⟩
  · exact .refl s

theorem State.sendQueueEmptied_same (s : State) (c : CircuitId) : SameOutside s (s.sendQueueEmptied c) := by
  unfold State.sendQueueEmptied
  extract_lets u
  split <;> exact ⟨rfl, rfl, rfl⟩

theorem State.takeData_same (s : State) (c : CircuitId) (payload : Payload) :
    SameOutside s (s.takeData c payload) := by
  unfold State.takeData
  extract_lets k y s1 x s2 s3 s4 s5 t s6
  have h3 : SameOutside s s3 := ⟨rfl, rfl, rfl⟩
  have h4 : SameOutside s s4 := h3.trans (s3.sendQueueShortened_same c)
  have h5 : SameOutside s s5 := by
    simp only [s5]
    split
    · exact h4.trans (s4.sendQueueEmptied_same c)
    · exact h4
  exact h5.trans ⟨rfl, rfl, rfl⟩

theorem State.take_same (s : State) (x : Choice) : SameOutside s (s.take x) := by
  cases x with
  | data c payload => exact s.takeData_same c payload
  | _ => exact ⟨rfl, rfl, rfl⟩

theorem State.arbitrate_same (s : State) : SameOutside s s.arbitrate := by
  unfold State.arbitrate
  split
  · exact .refl s
  · split
    · exact (s.take_same _).trans ⟨rfl, rfl, rfl⟩
    · exact .refl s

/-- The end of a claim touches neither the host port nor the waiting commands. -/
theorem State.settle_same (s : State) : SameOutside s s.settle :=
  SameOutside.trans (t := s.closeClaim) ⟨rfl, rfl, rfl⟩ s.closeClaim.arbitrate_same

@[simp] theorem State.settle_port (s : State) : s.settle.port = s.port := s.settle_same.port
@[simp] theorem State.settle_power (s : State) : s.settle.power = s.power := s.settle_same.power
@[simp] theorem State.settle_pending (s : State) : s.settle.pending = s.pending := s.settle_same.pending
@[simp] theorem State.arbitrate_port (s : State) : s.arbitrate.port = s.port := s.arbitrate_same.port

/-! ## What leaves the part -/

/-- A held part drives neither line. -/
theorem State.outputs_held {s : State} (h : s.power ≠ .running) : s.htx = none ∧ s.trunkPair = none := by
  simp [State.htx, State.trunkPair, State.isRunning, h]

/-- A running part sends the head of its reply queue and the frame in transmission. -/
theorem State.outputs_running {s : State} (h : s.power = .running) :
    s.htx = s.port.replies.head?.map Reply.frameBytes
      ∧ s.trunkPair = s.transmit.wire.map fun w => trunkFrameBytes w.frame := by
  simp [State.htx, State.trunkPair, State.isRunning, h]

/-! ## Claims and requests -/

@[simp] theorem State.isRunning_iff (s : State) : s.isRunning = true ↔ s.power = .running := by
  simp [State.isRunning]

/-- A claim on a running part. -/
theorem State.event_running {s : State} (h : s.power = .running) (f : State → State) :
    s.event f = .next (f s).settle := by simp [State.event, h]

/-- A held part takes nothing. -/
theorem State.event_held {s : State} (h : s.power ≠ .running) (f : State → State) : s.event f = .next s := by
  simp [State.event, h]

theorem State.serve_nil {s : State} (h : s.port.intake = []) (n : Nat) : s.serve n = s := by
  cases n <;> simp [State.serve, h]

/-- A request that arrives at a ready part is taken at once. -/
theorem State.hostFrame_ready {s : State} (h : PortReady s) (kind tag : Byte) (body : List Byte) :
    s.hostFrame kind tag body = .next ((s.judge kind body).reply tag).settle := by
  obtain ⟨hp, hi, hr, hs⟩ := h
  have hm : s.port.mayTake = true := by simp [HostPort.mayTake, hs, Config.replyCapacity, hr]
  have hs' : s.setIntake [] = s := by
    rw [← hi]
    rfl
  have hq : (s.setIntake [⟨kind, tag, body⟩]).setIntake [] = s := by
    rw [← hs']
    rfl
  have hg : s.goodFrame ⟨kind, tag, body⟩ = ((s.judge kind body).reply tag).settle := by
    have hl : s.port.intake.length < Config.intakeCapacity := by simp [hi, Config.intakeCapacity]
    have hm' : (s.setIntake [⟨kind, tag, body⟩]).port.mayTake = true := hm
    unfold State.goodFrame
    rw [if_pos hl, hi]
    show (if (s.setIntake [⟨kind, tag, body⟩]).port.mayTake then _ else _) = _
    rw [if_pos hm']
    exact congrArg (fun u => (State.takeRequest u ⟨kind, tag, body⟩).settle) hq
  simp [State.hostFrame, hp, hg]

/-! ## What the blocks' shared operations leave of the host port -/

theorem State.closeDown_same (s : State) (c : CircuitId) (keepRole : Bool) :
    SameOutside s (s.closeDown c keepRole) := by
  have h : SameOutside s (s.returnCallCells c) := by
    unfold State.returnCallCells
    extract_lets
    refine SameOutside.released ?_ _
    exact ⟨rfl, rfl, rfl⟩
  exact h.trans ⟨rfl, rfl, rfl⟩

theorem State.changeTrunk_same (s : State) (st : TrunkState) (cause : Option TrunkCause) :
    SameOutside s (s.changeTrunk st cause) := ⟨rfl, rfl, rfl⟩

theorem State.enterUp_same (s : State) (cause : Option TrunkCause) :
    SameOutside s (s.enterUp cause) := ⟨rfl, rfl, rfl⟩

theorem State.abandonNapAsk_same (s : State) (cause : TrunkCause) : SameOutside s (s.abandonNapAsk cause) := by
  unfold State.abandonNapAsk
  split
  · exact s.enterUp_same _
  · exact .refl s

theorem State.rouseToUp_same (s : State) (cause : Option TrunkCause) :
    SameOutside s (s.rouseToUp cause) := ⟨rfl, rfl, rfl⟩

theorem State.trunkLoss_same (s : State) (cause : CircuitCause) : SameOutside s (s.trunkLoss cause) := by
  unfold State.trunkLoss
  extract_lets
  refine SameOutside.released ?_ _
  exact ⟨rfl, rfl, rfl⟩

theorem State.enterFault_same (s : State) (cause : TrunkCause) : SameOutside s (s.enterFault cause) := by
  unfold State.enterFault
  extract_lets u v w x
  have h : SameOutside s u := by
    simp only [u]
    split
    · exact .refl s
    · exact s.trunkLoss_same _
  exact h.trans ⟨rfl, rfl, rfl⟩

theorem State.enterRetune_same (s : State) (cause : TrunkCause) (heard : Bool) :
    SameOutside s (s.enterRetune cause heard) := by
  unfold State.enterRetune
  extract_lets
  split <;> exact ⟨rfl, rfl, rfl⟩

theorem State.retuneCause_same (s : State) (cause : TrunkCause) (heard : Bool) :
    SameOutside s (s.retuneCause cause heard) := by
  unfold State.retuneCause
  extract_lets l u
  have h : SameOutside s u := ⟨rfl, rfl, rfl⟩
  split
  · exact h.trans (u.enterFault_same _)
  · exact h.trans (u.enterRetune_same _ _)

theorem State.acknowledge_same (s : State) (k : Nat) : SameOutside s (s.acknowledge k) := by
  unfold State.acknowledge
  extract_lets
  refine SameOutside.released ?_ _
  exact ⟨rfl, rfl, rfl⟩

/-! ## Cells by their class and by the trunk state -/

theorem State.acceptCell_eq (s : State) : s.acceptCell = s.accepting := rfl

theorem State.classified_expected (s : State) (owner : State → State) :
    s.classified s.checker.expected owner = owner s.accepting := by
  simp [State.classified, classify, State.acceptCell_eq]

/-- Where cells are classified at once. -/
theorem State.receiveCell_classified {s : State}
    (h : s.link.state = .up ∨ s.link.state = .napAsking ∨ s.link.state = .retune)
    (sequence : Byte) (owner : State → State) : s.receiveCell sequence owner = s.classified sequence owner := by
  rcases h with h | h | h <;> simp [State.receiveCell, h]

/-- An accepted cell is its owner's claim. -/
theorem State.cellCommand_accepts {s : State} {sequence circuit : Byte} {c : CircuitId}
    (h : Accepts s sequence circuit c) (owner : CircuitId → State → State) :
    s.cellCommand sequence circuit owner = .next (owner c s.accepting).settle := by
  obtain ⟨hp, hl, rfl, hc⟩ := h
  rw [State.cellCommand, State.event_running hp]
  simp only [hc, State.receiveCell_classified hl, State.classified_expected]

/-! ## Records -/

@[simp] theorem NoticeUnit.record_setRecord (n : NoticeUnit) (p : Pair) (r : NoticeRecord) :
    (n.setRecord p r).record p = r := by
  cases p <;> simp [NoticeUnit.setRecord, NoticeUnit.record, RecordTable.set, RecordTable.get]

theorem NoticeUnit.record_setRecord_of_ne (n : NoticeUnit) {p q : Pair} (h : q ≠ p) (r : NoticeRecord) :
    (n.setRecord p r).record q = n.record q := by
  cases p <;> cases q <;> simp_all [NoticeUnit.setRecord, NoticeUnit.record, RecordTable.set, RecordTable.get] <;>
    (rename_i c d; by_cases e : d = c <;> simp_all)

@[simp] theorem NoticeUnit.record_setQueue (n : NoticeUnit) (q : List Pair) (p : Pair) :
    (n.setQueue q).record p = n.record p := rfl

/-! ## Circuit numbers on the lines -/

@[simp] theorem circuitOf_circuitByte (c : CircuitId) : circuitOf (circuitByte c) = some c := by
  fin_cases c <;> rfl

end Sys2Proof.Machine
end

