-- ==== Sys2Proof/Laws/PerInstr.lean ====
section
/-!
SUPPORT. One family of statements about every command: a request row is the row of its own frame.
-/

namespace Sys2Proof.Laws

/-- A request row that a frame can carry is the row that its frame's KIND, TAG and BODY name (section 10.5). -/
def Route.Statement (i : Instr) : Prop :=
  ∀ f : Machine.HostFrame, Machine.requestFrame i = some f → wellFormed i = true →
    Machine.requestRow f.kind f.tag f.body = i

theorem Route.trunkUp (tag : Byte) (body : List Byte) : Route.Statement (.trunkUp tag body) := by rintro f ⟨⟩ -; rfl
theorem Route.trunkDown (tag : Byte) (body : List Byte) :
    Route.Statement (.trunkDown tag body) := by rintro f ⟨⟩ -; rfl
theorem Route.retune (tag : Byte) (body : List Byte) : Route.Statement (.retune tag body) := by rintro f ⟨⟩ -; rfl
theorem Route.nap (tag : Byte) (body : List Byte) : Route.Statement (.nap tag body) := by rintro f ⟨⟩ -; rfl
theorem Route.rouse (tag : Byte) (body : List Byte) : Route.Statement (.rouse tag body) := by rintro f ⟨⟩ -; rfl
theorem Route.trunkStatus (tag : Byte) (body : List Byte) :
    Route.Statement (.trunkStatus tag body) := by rintro f ⟨⟩ -; rfl
theorem Route.dial (tag : Byte) (body : List Byte) : Route.Statement (.dial tag body) := by rintro f ⟨⟩ -; rfl
theorem Route.accept (tag : Byte) (body : List Byte) : Route.Statement (.accept tag body) := by rintro f ⟨⟩ -; rfl
theorem Route.refuse (tag : Byte) (body : List Byte) : Route.Statement (.refuse tag body) := by rintro f ⟨⟩ -; rfl
theorem Route.hangup (tag : Byte) (body : List Byte) : Route.Statement (.hangup tag body) := by rintro f ⟨⟩ -; rfl
theorem Route.bar (tag : Byte) (body : List Byte) : Route.Statement (.bar tag body) := by rintro f ⟨⟩ -; rfl
theorem Route.unbar (tag : Byte) (body : List Byte) : Route.Statement (.unbar tag body) := by rintro f ⟨⟩ -; rfl
theorem Route.quiet (tag : Byte) (body : List Byte) : Route.Statement (.quiet tag body) := by rintro f ⟨⟩ -; rfl
theorem Route.wake (tag : Byte) (body : List Byte) : Route.Statement (.wake tag body) := by rintro f ⟨⟩ -; rfl
theorem Route.options (tag : Byte) (body : List Byte) : Route.Statement (.options tag body) := by rintro f ⟨⟩ -; rfl
theorem Route.circuitStatus (tag : Byte) (body : List Byte) :
    Route.Statement (.circuitStatus tag body) := by rintro f ⟨⟩ -; rfl
theorem Route.send (tag : Byte) (body : List Byte) : Route.Statement (.send tag body) := by rintro f ⟨⟩ -; rfl
theorem Route.fetch (tag : Byte) (body : List Byte) : Route.Statement (.fetch tag body) := by rintro f ⟨⟩ -; rfl
theorem Route.discard (tag : Byte) (body : List Byte) : Route.Statement (.discard tag body) := by rintro f ⟨⟩ -; rfl
theorem Route.poll (tag : Byte) (body : List Byte) : Route.Statement (.poll tag body) := by rintro f ⟨⟩ -; rfl
theorem Route.mask (tag : Byte) (body : List Byte) : Route.Statement (.mask tag body) := by rintro f ⟨⟩ -; rfl
theorem Route.dismiss (tag : Byte) (body : List Byte) : Route.Statement (.dismiss tag body) := by rintro f ⟨⟩ -; rfl
theorem Route.ident (tag : Byte) (body : List Byte) : Route.Statement (.ident tag body) := by rintro f ⟨⟩ -; rfl
theorem Route.set (tag : Byte) (body : List Byte) : Route.Statement (.set tag body) := by rintro f ⟨⟩ -; rfl
theorem Route.get (tag : Byte) (body : List Byte) : Route.Statement (.get tag body) := by rintro f ⟨⟩ -; rfl
theorem Route.counters (tag : Byte) (body : List Byte) : Route.Statement (.counters tag body) := by rintro f ⟨⟩ -; rfl
theorem Route.restart (tag : Byte) (body : List Byte) : Route.Statement (.restart tag body) := by rintro f ⟨⟩ -; rfl
theorem Route.unknownRequest (kind tag : Byte) (body : List Byte) :
    Route.Statement (.unknownRequest kind tag body) := by
  rintro f ⟨⟩ h
  have hk : requestKindOf kind = none := by
    simp only [wellFormed, Bool.and_eq_true, Option.isNone_iff_eq_none] at h
    exact h.1
  simp only [Machine.requestRow, hk]
theorem Route.hostByteReceived (value : Byte) (stopBit : Bool) :
    Route.Statement (.hostByteReceived value stopBit) := by rintro f ⟨⟩
theorem Route.gapTimerExpiry : Route.Statement .gapTimerExpiry := by rintro f ⟨⟩
theorem Route.replySent : Route.Statement .replySent := by rintro f ⟨⟩
theorem Route.restartStart (straps : Straps) : Route.Statement (.restartStart straps) := by rintro f ⟨⟩
theorem Route.powerOn (straps : Straps) : Route.Statement (.powerOn straps) := by rintro f ⟨⟩
theorem Route.resetPinLow : Route.Statement .resetPinLow := by rintro f ⟨⟩
theorem Route.resetPinHigh (straps : Straps) : Route.Statement (.resetPinHigh straps) := by rintro f ⟨⟩
theorem Route.incomingDataCell (sequence circuit : Byte) (payload : Payload) :
    Route.Statement (.incomingDataCell sequence circuit payload) := by rintro f ⟨⟩
theorem Route.incomingDial (sequence circuit : Byte) (callNumber window : Byte) :
    Route.Statement (.incomingDial sequence circuit callNumber window) := by rintro f ⟨⟩
theorem Route.incomingAnswer (sequence circuit : Byte) (callNumber window : Byte) :
    Route.Statement (.incomingAnswer sequence circuit callNumber window) := by rintro f ⟨⟩
theorem Route.incomingReject (sequence circuit : Byte) (callNumber reason : Byte) :
    Route.Statement (.incomingReject sequence circuit callNumber reason) := by rintro f ⟨⟩
theorem Route.incomingHang (sequence circuit callNumber : Byte) :
    Route.Statement (.incomingHang sequence circuit callNumber) := by rintro f ⟨⟩
theorem Route.incomingHangDone (sequence circuit callNumber : Byte) :
    Route.Statement (.incomingHangDone sequence circuit callNumber) := by rintro f ⟨⟩
theorem Route.incomingQuietAsk (sequence circuit callNumber : Byte) :
    Route.Statement (.incomingQuietAsk sequence circuit callNumber) := by rintro f ⟨⟩
theorem Route.incomingQuietOk (sequence circuit callNumber : Byte) :
    Route.Statement (.incomingQuietOk sequence circuit callNumber) := by rintro f ⟨⟩
theorem Route.incomingQuietRefuse (sequence circuit callNumber : Byte) :
    Route.Statement (.incomingQuietRefuse sequence circuit callNumber) := by rintro f ⟨⟩
theorem Route.incomingWake (sequence circuit callNumber : Byte) :
    Route.Statement (.incomingWake sequence circuit callNumber) := by rintro f ⟨⟩
theorem Route.incomingCredit (sequence circuit : Byte) (callNumber count : Byte) :
    Route.Statement (.incomingCredit sequence circuit callNumber count) := by rintro f ⟨⟩
theorem Route.helloReceived (side version : Byte) (circuits capacity : Byte) :
    Route.Statement (.helloReceived side version circuits capacity) := by rintro f ⟨⟩
theorem Route.readyReceived : Route.Statement .readyReceived := by rintro f ⟨⟩
theorem Route.ackReceived (n : Byte) : Route.Statement (.ackReceived n) := by rintro f ⟨⟩
theorem Route.nakReceived (n : Byte) : Route.Statement (.nakReceived n) := by rintro f ⟨⟩
theorem Route.tuneReceived : Route.Statement .tuneReceived := by rintro f ⟨⟩
theorem Route.tuneOkReceived : Route.Statement .tuneOkReceived := by rintro f ⟨⟩
theorem Route.napAskReceived : Route.Statement .napAskReceived := by rintro f ⟨⟩
theorem Route.napOkReceived : Route.Statement .napOkReceived := by rintro f ⟨⟩
theorem Route.napRefuseReceived : Route.Statement .napRefuseReceived := by rintro f ⟨⟩
theorem Route.rouseReceived : Route.Statement .rouseReceived := by rintro f ⟨⟩
theorem Route.rouseOkReceived : Route.Statement .rouseOkReceived := by rintro f ⟨⟩
theorem Route.downReceived : Route.Statement .downReceived := by rintro f ⟨⟩
theorem Route.downOkReceived : Route.Statement .downOkReceived := by rintro f ⟨⟩
theorem Route.faultReceived (cause : Byte) : Route.Statement (.faultReceived cause) := by rintro f ⟨⟩
theorem Route.frameFailsCheck : Route.Statement .frameFailsCheck := by rintro f ⟨⟩
theorem Route.trunkFrameComplete : Route.Statement .trunkFrameComplete := by rintro f ⟨⟩
theorem Route.dialTimerExpiry (circuit : CircuitId) : Route.Statement (.dialTimerExpiry circuit) := by rintro f ⟨⟩
theorem Route.ringTimerExpiry (circuit : CircuitId) : Route.Statement (.ringTimerExpiry circuit) := by rintro f ⟨⟩
theorem Route.holdoffExpiry (circuit : CircuitId) : Route.Statement (.holdoffExpiry circuit) := by rintro f ⟨⟩
theorem Route.replayTimerExpiry : Route.Statement .replayTimerExpiry := by rintro f ⟨⟩
theorem Route.errorWindowExpiry : Route.Statement .errorWindowExpiry := by rintro f ⟨⟩
theorem Route.repeatTimerExpiry : Route.Statement .repeatTimerExpiry := by rintro f ⟨⟩
theorem Route.trainTimerExpiry : Route.Statement .trainTimerExpiry := by rintro f ⟨⟩
theorem Route.retuneTimerExpiry : Route.Statement .retuneTimerExpiry := by rintro f ⟨⟩
theorem Route.closeTimerExpiry : Route.Statement .closeTimerExpiry := by rintro f ⟨⟩
theorem Route.faultHoldExpiry : Route.Statement .faultHoldExpiry := by rintro f ⟨⟩
theorem Route.napAskTimerExpiry : Route.Statement .napAskTimerExpiry := by rintro f ⟨⟩
theorem Route.rouseTimerExpiry : Route.Statement .rouseTimerExpiry := by rintro f ⟨⟩

end Sys2Proof.Laws
end

