-- ==== Sys2Proof/Tests/Slice0.lean ====
section
/-!
SUPPORT. Own tests: each check of `wellFormed` with a command it refuses, the check values and layouts of both lines,
single steps whose expected results stand in the manual's rules and worked sequences, and for every statement with
hypotheses a state and operands that meet them.
-/

namespace Sys2Proof.Tests

open Sys2Proof Sys2Proof.Machine

/-! ## WellFormed: one ill-formed command for each check -/

theorem test_body_of_81_bytes_refused : wellFormed (.poll 0 (List.replicate 81 0)) = false := by decide
theorem test_body_of_80_bytes_fits : wellFormed (.send 0 (List.replicate 80 0)) = true := by decide
theorem test_known_kind_is_no_unknown_request : wellFormed (.unknownRequest 0x44 0 []) = false := by decide
theorem test_unknown_request_of_81_bytes_refused :
    wellFormed (.unknownRequest 0x45 0 (List.replicate 81 0)) = false := by decide
theorem test_empty_payload_refused : wellFormed (.incomingDataCell 0 0 []) = false := by decide
theorem test_payload_of_65_bytes_refused : wellFormed (.incomingDataCell 0 0 (List.replicate 65 0)) = false := by decide
theorem test_data_for_circuit_8_refused : wellFormed (.incomingDataCell 0 8 [1]) = false := by decide
theorem test_word_for_circuit_8_refused : wellFormed (.incomingHang 0 8 1) = false := by decide
theorem test_hello_from_side_2_refused : wellFormed (.helloReceived 2 1 8 48) = false := by decide

/-! ## Check values and layouts (R192, sections 10.2 and 10.4) -/

/- The check value of the nine digits "123456789" under each of the two computations of R192, as their catalogues
list it; that of the 32-bit one rests on the reflected reading (log 27). -/
set_option maxRecDepth 4000 in
theorem test_crc16_of_nine_digits : crc16 [0x31, 0x32, 0x33, 0x34, 0x35, 0x36, 0x37, 0x38, 0x39] = 0x29B1 := by decide
set_option maxRecDepth 4000 in
theorem test_crc32_of_nine_digits :
    crc32 [0x31, 0x32, 0x33, 0x34, 0x35, 0x36, 0x37, 0x38, 0x39] = 0xCBF43926 := by decide

theorem test_control_cell_layout : coveredBytes (.control 20 6 (.dial 8) 5) = [2, 20, 6, 1, 5, 8] := by decide
theorem test_data_cell_layout : coveredBytes (.data 24 6 [0xAA, 0xBB]) = [1, 24, 6, 2, 0xAA, 0xBB] := by decide
theorem test_hello_layout : coveredBytes (.signal (.hello 0 1 8 48)) = [3, 1, 0, 1, 8, 48] := by decide
theorem test_host_frame_layout : (hostFrameBytes 0x21 7 [5]).take 5 = [0xA5, 3, 0x21, 7, 5] := by decide
theorem test_signal_with_wrong_argument_count_fails : coveredFrame [3, 2, 0] = none := by decide
theorem test_control_cell_of_word_11_fails : coveredFrame [2, 0, 0, 11, 0, 0] = none := by decide

/-! ## Small states -/

/-- The state a command leaves. -/
def after (i : Instr) (s : State) : State :=
  match exec i s with
  | .next t => t
  | .fault _ => s
  | .refused _ => s

/-- The status of the newest reply. -/
def status (s : State) : Option Status := s.port.replies.getLast?.map (·.status)

/-- The part in UP. -/
def up : State :=
  { State.reset with
    link := { LinkController.atStart with state := .up }
    checker := { ReceiveChecker.atStart with errorWindow := some 100 } }

/-- The part in a trunk state. -/
def trunk (st : TrunkState) : State := { up with link := { up.link with state := st } }

/-- A transmitter that sends a frame, so that slots keep their words. -/
def busy (s : State) : State := { s with transmit := { s.transmit with wire := some ⟨.linkStanding, .signal .tune⟩ } }

/-- Circuit 6 in a state on call `k`. -/
def call (s : State) (st : CircuitState) (k : Byte) : State :=
  s.setCtx 6 { Context.atStart with state := st, callNumber := k }

/-- Circuit 6 connected on call 5 with window 4, as B's after 11.1. -/
def connected : State :=
  State.setCells
    (State.setCtx { up with pool := { up.pool with free := 252 } } 6
      { Context.atStart with
        state := .connected, callNumber := 5, role := some .callee, window := some 4, creditLimit := 8, granted := 4 })
    6 { sendQueue := [], receiveQueue := [], reserved := 4 }

/-- Three outstanding data cells, numbered 21 to 23 (11.2). -/
def outstanding : State :=
  { up with
    pool := { up.pool with free := 253 }
    retry :=
      { RetryUnit.atStart with
        entries := [⟨21, 6, .data [1], 1⟩, ⟨22, 6, .data [2], 1⟩, ⟨23, 6, .data [3], 1⟩]
        nextSequence := 24, replayTimer := some 2 } }

/-! ## Calls (11.1, section 5.9) -/

theorem test_dial_opens_call_5 :
    let t := after (.dial 1 [6, 8, 8]) (busy (call up .idle 4))
    (t.ctx 6).state = .dialing ∧ (t.ctx 6).callNumber = 5 ∧ (t.ctx 6).granted = 8 ∧ t.pool.free = 248
      ∧ (t.cells 6).reserved = 8 ∧ (t.slots 6).request = some ⟨.dial 8, 5, false, false⟩ := by decide

theorem test_idle_arbiter_takes_the_dial_at_once :
    let t := after (.dial 1 [6, 8, 8]) (call up .idle 4)
    t.transmit.wire = some ⟨.firstControl, .control 0 6 (.dial 8) 5⟩ ∧ (t.slots 6).request = none := by decide

theorem test_side_a_ignores_a_crossed_dial :
    ((after (.incomingDial 0 6 3 6) (call up .dialing 5)).ctx 6).callNumber = 5 := by decide

theorem test_side_b_yields_to_a_crossed_dial :
    let b := { call up .dialing 3 with port := { up.port with side := .b } }
    let t := after (.incomingDial 0 6 5 8) b
    (t.ctx 6).state = .ringing ∧ (t.ctx 6).lastCause = some .crossed ∧ (t.ctx 6).creditLimit = 8 := by decide

theorem test_answer_connects :
    let t := after (.incomingAnswer 0 6 5 4) (call up .dialing 5)
    (t.ctx 6).state = .connected ∧ (t.ctx 6).creditLimit = 4 := by decide

theorem test_accept_with_window_4 :
    let t := after (.accept 1 [6, 4]) (busy (call up .ringing 5))
    (t.ctx 6).state = .connected ∧ t.pool.free = 252 ∧ (t.slots 6).answer = some ⟨.answer 4, 5⟩ := by decide

theorem test_reject_gives_back_the_circuit :
    ((after (.incomingReject 0 6 5 0) (call up .dialing 5)).ctx 6).lastCause = some .refused := by decide

theorem test_refuse_rejects_the_offer :
    ((after (.refuse 1 [6]) (busy (call up .ringing 5))).slots 6).answer = some ⟨.reject 0, 5⟩ := by decide

theorem test_dial_timer_leaves_a_hang_for_a_sent_dial :
    let s := busy (up.setCtx 6 { Context.atStart with state := .dialing, callNumber := 5, timer := .dial 250 })
    ((after (.dialTimerExpiry 6) s).slots 6).request = some ⟨.hang, 5, false, false⟩ := by decide

theorem test_stale_answer_draws_a_hang_into_the_overflow :
    let s := (call up .dialing 6).setSlots 6 { Slots.empty with request := some ⟨.dial 4, 6, false, false⟩ }
    ((after (.incomingAnswer 0 6 5 4) (busy s)).slots 6).overflow = some 5 := by decide

theorem test_ring_timer_gives_no_answer :
    let s := up.setCtx 6 { Context.atStart with state := .ringing, callNumber := 5, timer := .ring 200 }
    ((after (.ringTimerExpiry 6) s).ctx 6).lastCause = some .noAnswer := by decide

theorem test_hangup_holds_the_hang_behind_data :
    let s := connected.setCells 6 { sendQueue := [[1], [2], [3]], receiveQueue := [], reserved := 4 }
    let t := after (.hangup 1 [6]) (busy s)
    (t.ctx 6).state = .releasing ∧ (t.slots 6).request = some ⟨.hang, 5, true, false⟩ := by decide

theorem test_hang_is_answered_hang_done :
    let t := after (.incomingHang 0 6 5) (busy connected)
    (t.ctx 6).state = .idle ∧ (t.slots 6).answer = some ⟨.hangDone, 5⟩ ∧ t.pool.free = 256 := by decide

theorem test_hang_done_ends_the_release :
    ((after (.incomingHangDone 0 6 5) (call up .releasing 5)).ctx 6).state = .idle := by decide

theorem test_bar_and_unbar :
    ((after (.bar 1 [6]) up).ctx 6).state = .barred
      ∧ ((after (.unbar 1 [6]) (call up .barred 5)).ctx 6).state = .idle := by decide

theorem test_circuit_status_of_the_dialling_side :
    (after (.circuitStatus 1 [6]) connected).port.replies.map (·.body)
      = [[6, 3, 0xFF, 5, 1, 4, 16, 8, 0, 4, 0, 8, 0, 0, 4, 8, 0, 0]] := by decide

/-! ## Buffers and transfer (11.2, 3.9) -/

theorem test_send_is_numbered_and_costs_credit :
    let t := after (.send 1 [6, 0xAA]) connected
    t.transmit.wire = some ⟨.firstData, .data 0 6 [0xAA]⟩ ∧ (t.ctx 6).sentCount = 1 ∧ t.pool.free = 251 := by decide

theorem test_data_cell_is_held :
    let t := after (.incomingDataCell 0 6 [7]) (busy connected)
    (t.cells 6).receiveQueue = [[7]] ∧ (t.cells 6).reserved = 3 ∧ t.transmit.ackNak = some (.ack 0)
      ∧ t.notices.queue = [.arrived 6] ∧ t.notices.attn = true := by decide

theorem test_overrun_fails_the_circuit :
    let s := connected.setCells 6 { sendQueue := [], receiveQueue := [[1]], reserved := 0 }
    let t := after (.incomingDataCell 0 6 [7]) (busy s)
    (t.ctx 6).state = .failed ∧ t.pool.lostCells = 1 ∧ (t.slots 6).request = some ⟨.hang, 5, false, false⟩ := by decide

theorem test_fetch_grants_credit :
    let s := connected.setCells 6 { sendQueue := [], receiveQueue := [[7], [8]], reserved := 2 }
    let t := after (.fetch 9 [6]) (busy s)
    t.port.replies = [⟨.ok, 9, [6, 1, 1, 7]⟩] ∧ (t.slots 6).credit = some ⟨5, 5⟩ := by decide

theorem test_discard_all_frees_cells_without_a_call :
    let s :=
      State.setCells { up with pool := { up.pool with free := 254 } } 6
        { sendQueue := [], receiveQueue := [[7], [8]], reserved := 0 }
    (after (.discard 1 [6, 1]) s).pool.free = 256 := by decide

theorem test_credit_raises_the_limit :
    let s := up.setCtx 6 { Context.atStart with state := .connected, callNumber := 5, creditLimit := 4, sentCount := 4 }
    ((after (.incomingCredit 0 6 5 6) s).ctx 6).creditLimit = 6 := by decide

theorem test_ack_removes_entries :
    let t := after (.ackReceived 22) outstanding
    t.retry.entries = [⟨23, 6, .data [3], 1⟩] ∧ t.pool.free = 255 := by decide

theorem test_nak_before_the_head_replays_everything :
    let t := after (.nakReceived 20) (busy outstanding)
    t.retry.replayPointer = some 0 ∧ t.retry.replays = 1 ∧ t.retry.entries.length = 3
      ∧ t.notices.queue = [.trunkError] := by decide

theorem test_failed_frame_posts_nak :
    let s := { busy up with checker := { up.checker with expected := 21 } }
    let t := after .frameFailsCheck s
    t.transmit.ackNak = some (.nak 20) ∧ t.checker.checkErrors = 1 ∧ t.checker.errorCounter = 1 := by decide

theorem test_cell_ahead_is_discarded :
    let s := { busy up with checker := { up.checker with expected := 21, nakOutstanding := true } }
    (after (.incomingHang 22 6 5) s).transmit.ackNak = none := by decide

theorem test_fourth_expiry_retunes :
    let s := { outstanding with retry := { outstanding.retry with replayCounter := 3 } }
    let t := after .replayTimerExpiry s
    t.link.state = .retune ∧ t.link.cause = some .replayLimit ∧ t.link.retuneCounter = 1 ∧ t.retry.replays = 0 := by
  decide

theorem test_error_window_starts_afresh :
    let s := { up with checker := { up.checker with errorCounter := 3 }, link := { up.link with retuneCounter := 2 } }
    let t := after .errorWindowExpiry s
    t.checker.errorCounter = 0 ∧ t.link.retuneCounter = 0 ∧ t.checker.errorWindow = some 100 := by decide

/-! ## Quiet, nap and rouse (11.3, 7.8) -/

theorem test_quiet_asks : ((after (.quiet 1 [6]) connected).ctx 6).state = .quieting := by decide

theorem test_quiet_ask_without_auto_quiet_is_refused :
    let t := after (.incomingQuietAsk 0 6 5) (busy connected)
    (t.ctx 6).state = .connected ∧ (t.slots 6).answer = some ⟨.quietRefuse, 5⟩ := by decide

theorem test_quiet_refuse_starts_the_holdoff :
    let t := after (.incomingQuietRefuse 0 6 5) (call up .quieting 5)
    (t.ctx 6).state = .connected ∧ (t.ctx 6).holdoff = some 2 ∧ (t.ctx 6).lastCause = some .quietRefused := by decide

theorem test_quiet_in_holdoff_is_refused :
    let s := connected.setCtx 6 { connected.ctx 6 with holdoff := some 2 }
    status (after (.quiet 1 [6]) s) = some .holdoff := by decide

theorem test_holdoff_ends :
    let s := connected.setCtx 6 { connected.ctx 6 with holdoff := some 2, askSinceRefusal := true }
    let t := after (.holdoffExpiry 6) s
    (t.ctx 6).holdoff = none ∧ (t.ctx 6).askSinceRefusal = false := by decide

theorem test_options_turn_auto_quiet_on :
    let t := after (.options 1 [6, 1, 32]) connected
    (t.ctx 6).autoQuiet = true ∧ (t.ctx 6).answerWindow = 32 := by decide

theorem test_quiet_ok_ends_the_ask : ((after (.incomingQuietOk 0 6 5) (call up .quieting 5)).ctx 6).state = .quiet := by
  decide

theorem test_nap_with_a_notice_is_refused :
    let s := { up with notices := (NoticeUnit.atStart.occurrence (.state 6)) }
    status (after (.nap 1 []) s) = some .pendingNotice := by decide

theorem test_nap_asks :
    let t := after (.nap 1 []) up
    t.link.state = .napAsking ∧ t.link.stateTimer = some ⟨.napAsk, 5⟩
      ∧ t.transmit.wire = some ⟨.linkStanding, .signal .napAsk⟩ := by decide

theorem test_nap_ask_is_granted :
    let t := after .napAskReceived (busy up)
    t.link.napGranted = true ∧ t.transmit.linkSlot.answer = some .napOk := by decide

theorem test_departed_nap_ok_enters_nap :
    let s :=
      { up with
        link := { up.link with napGranted := true }
        transmit := { up.transmit with wire := some ⟨.linkAnswer, .signal .napOk⟩ } }
    (after .trunkFrameComplete s).link.state = .nap := by decide

theorem test_nap_ok_enters_nap : (after .napOkReceived (trunk .napAsking)).link.state = .nap := by decide
theorem test_nap_refuse_ends_the_ask :
    (after .napRefuseReceived (trunk .napAsking)).link.cause = some .napRefused := by decide

theorem test_nak_in_nap_is_an_implicit_rouse :
    let t := after (.nakReceived 29) (busy (trunk .nap))
    t.link.state = .up ∧ t.link.cause = some .peer ∧ t.transmit.linkSlot.answer = some .rouseOk := by decide

theorem test_wake_in_nap_rouses :
    let t := after (.wake 1 [6]) (call (trunk .nap) .quiet 5)
    t.link.state = .rousing ∧ (t.ctx 6).state = .waking ∧ t.link.stateTimer = some ⟨.rouse, 10⟩ := by decide

theorem test_rouse_ok_connects_a_waking_circuit :
    let t := after .rouseOkReceived (busy (call (trunk .rousing) .waking 5))
    t.link.state = .up ∧ (t.ctx 6).state = .connected ∧ (t.slots 6).request = some ⟨.wake, 5, false, false⟩ := by decide

theorem test_incoming_wake_connects : ((after (.incomingWake 0 6 5) (call up .quiet 5)).ctx 6).state = .connected := by
  decide

/-! ## The trunk (6.9, 6.10, 11.4) -/

theorem test_trunk_up_stands_hello :
    let t := after (.trunkUp 1 []) State.reset
    t.link.state = .training ∧ t.transmit.wire = some ⟨.linkStanding, .signal (.hello 0 1 8 48)⟩ := by decide

theorem test_hello_is_followed :
    let t := after (.helloReceived 1 1 8 48) State.reset
    t.link.state = .training ∧ t.link.cause = some .peer ∧ t.link.peerHeard = true
      ∧ t.transmit.linkSlot.standing = some .ready := by decide

theorem test_ready_after_our_ready_enters_up :
    let s := { trunk .training with link := { (trunk .training).link with peerHeard := true, readySent := true } }
    let t := after .readyReceived s
    t.link.state = .up ∧ t.checker.expected = 0 := by decide

theorem test_ready_in_up_is_echoed_once :
    let t := after .readyReceived (busy up)
    t.link.echo = true ∧ t.transmit.linkSlot.answer = some .ready := by decide

theorem test_tune_is_answered :
    let t := after .tuneReceived (busy up)
    t.link.state = .retune ∧ t.link.cause = some .peer ∧ t.link.retuneCounter = 1
      ∧ t.transmit.linkSlot.standing = some .tuneOk := by decide

theorem test_tune_ok_after_ours_returns_to_up :
    let s := { trunk .retune with link := { (trunk .retune).link with tuneOkSent := true, retuneCounter := 1 } }
    let t := after .tuneOkReceived s
    t.link.state = .up ∧ t.link.retuneCounter = 1 := by decide

theorem test_third_retune_failure_is_a_fault :
    let s :=
      { trunk .retune with
        link := { (trunk .retune).link with retuneCounter := 2, stateTimer := some ⟨.retune, 20⟩ } }
    let t := after .retuneTimerExpiry s
    t.link.state = .fault ∧ t.link.cause = some .retuneLimit ∧ t.link.faults = 1 := by decide

theorem test_trunk_up_in_the_hold_is_refused : status (after (.trunkUp 1 []) (trunk .fault)) = some .holding := by
  decide

theorem test_fault_hold_ends :
    let s := { trunk .fault with link := { (trunk .fault).link with stateTimer := some ⟨.faultHold, 50⟩ } }
    let t := after .faultHoldExpiry s
    t.link.state = .fault ∧ t.link.holdElapsed = true ∧ t.notices.queue = [.trunkState] := by decide

theorem test_hello_in_up_is_a_peer_restart :
    (after (.helloReceived 1 1 8 48) up).link.cause = some .peerRestart := by decide

theorem test_trunk_down_closes : (after (.trunkDown 1 []) up).link.state = .closing := by decide
theorem test_down_ok_ends_the_close : (after .downOkReceived (trunk .closing)).link.cause = some .host := by decide

/-! ## Notices (8.10, 11.5) -/

set_option maxRecDepth 4000 in
theorem test_poll_reports_and_clears :
    let s := { up with notices := (NoticeUnit.atStart.occurrence .portError) }
    let t := after (.poll 3 []) s
    t.port.replies = [⟨.ok, 3, [1, 0, 0, 0, 0, 0, 1, 1, 1, 1, 0, 0, 0, 0]⟩] ∧ t.notices.attn = false := by decide

set_option maxRecDepth 4000 in
theorem test_dismiss_reads_the_count :
    let s := { up with notices := (NoticeUnit.atStart.occurrence (.room 3)) }
    let t := after (.dismiss 1 [5, 3]) s
    t.port.replies = [⟨.ok, 1, [1, 1]⟩] ∧ t.notices.queue = [] := by decide

theorem test_mask_keeps_a_pair_out :
    let s := after (.mask 1 [5, 3, 1]) up
    let n := s.notices.occurrence (.room 3)
    n.queue = [] ∧ (n.record (.room 3)).unreported = 1 := by decide

/-! ## The host port (9.6) and starts -/

theorem test_ninth_fetch_is_an_overrun :
    let s :=
      { up with
        port :=
          { up.port with intake := List.replicate 4 ⟨0x21, 5, [5]⟩, replies := List.replicate 4 ⟨.ok, 1, []⟩ } }
    let t := after (.fetch 9 [5]) s
    t.port.overruns = 1 ∧ t.port.intake.length = 4 ∧ t.notices.queue = [.portError] := by decide

theorem test_leaving_reply_takes_the_next_request :
    let s :=
      { up with port := { up.port with intake := [⟨0x40, 5, []⟩], replies := List.replicate 4 ⟨.ok, 1, []⟩ } }
    let t := after .replySent s
    t.port.intake = [] ∧ t.port.replies.map (·.tag) = [1, 1, 1, 5] := by decide

theorem test_ident_after_power_on :
    (after (.ident 2 []) State.reset).port.replies = [⟨.ok, 2, [0x71, 0x0C, 8, 1, 0, 0, 1, 0, 1]⟩] := by decide

set_option maxRecDepth 4000 in
theorem test_ident_reply_on_htx :
    (after (.ident 2 []) State.reset).htx.map (·.take 6) = some [0xA5, 11, 0, 2, 0x71, 0x0C] := by decide

set_option maxRecDepth 4000 in
theorem test_refusal_on_htx :
    (after (.unknownRequest 0x45 9 []) State.reset).htx.map (·.take 4) = some [0xA5, 2, 0x01, 9] := by decide

theorem test_low_reset_idles_both_lines :
    let t := after .resetPinLow (after (.ident 2 []) (busy up))
    t.htx = none ∧ t.trunkPair = none ∧ t.port.replies = [] := by decide

theorem test_set_then_get :
    (after (.get 2 [10]) (after (.set 1 [10, 0x10, 0x27]) up)).port.replies
      = [⟨.ok, 1, [10, 0x10, 0x27]⟩, ⟨.ok, 2, [10, 0x10, 0x27]⟩] := by decide

theorem test_set_out_of_range_is_refused : status (after (.set 1 [10, 0x11, 0x27]) up) = some .badValue := by decide

theorem test_counters_clear_after_the_reply :
    let s := { up with pool := { up.pool with lostCells := 258 } }
    let t := after (.counters 1 [1]) s
    (t.port.replies.map fun r => (r.body.drop 10).take 2) = [[2, 1]] ∧ t.pool.lostCells = 0 := by decide

set_option maxRecDepth 4000 in
theorem test_bad_check_discards_the_frame :
    let s := { up with port := { up.port with framer := .awaitingCheck 2 [0x40, 0] (some 0) } }
    (after (.hostByteReceived 0 true) s).port.frameErrors = 1 := by decide

theorem test_gap_discards_the_frame :
    let s := { up with port := { up.port with framer := .awaitingLength } }
    (after .gapTimerExpiry s).port.framer = .hunting := by decide

theorem test_restart_waits_for_its_reply :
    let t := after .replySent (after (.restart 1 []) up)
    t.port.restart = .replyLeft ∧ (after (.restartStart ⟨true, false, true⟩) t).port.startCause = .request
      ∧ (after (.restartStart ⟨true, false, true⟩) t).port.side = .b := by decide

theorem test_reset_pin_starts_with_cause_pin :
    (after (.resetPinHigh ⟨false, true, true⟩) (after .resetPinLow up)).port.startCause = .pin := by decide

/-! ## A state and operands that meet each statement's hypotheses -/

/-- The part in UP with its state timer running as a timer. -/
def timed (st : TrunkState) (k : StateTimerKind) : State :=
  { trunk st with link := { (trunk st).link with stateTimer := some ⟨k, 5⟩ } }

/-- The framer in a state. -/
def framing (f : Framer) : State := { up with port := { up.port with framer := f } }

theorem test_meets_stepRunsFrontCommand :
    ({ up with pending := [.poll 0 [], .replySent] } : State).pending = .poll 0 [] :: [.replySent]
      ∧ up.pending = [] := by decide

theorem test_meets_startsSampleStrapsAndCause :
    up.power = .running ∧ (after .resetPinLow up).power = .held
      ∧ (after (.powerOn ⟨false, false, false⟩) (after .resetPinLow up)).power = .heldSincePower
      ∧ (after .replySent (after (.restart 1 []) up)).port.restart = .replyLeft
      ∧ (after (.restart 1 []) up).port.restart ≠ .replyLeft := by decide

theorem test_meets_lowResetHoldsThePart :
    up.power = .running ∧ (after .resetPinLow up).power ≠ .running ∧ isStart (.readyReceived) = false := by decide

theorem test_meets_requestsWaitOrOverrun :
    let waiting (n : Nat) : State :=
      { up with
        port :=
          { up.port with intake := List.replicate n ⟨0x21, 5, [5]⟩, replies := List.replicate 4 ⟨.ok, 1, []⟩ } }
    requestFrame (.fetch 9 [5]) = some ⟨0x21, 9, [5]⟩ ∧ (waiting 3).power = .running
      ∧ (waiting 3).port.intake.length < 4 ∧ 4 ≤ (waiting 3).port.replies.length
      ∧ 4 ≤ (waiting 4).port.intake.length := by decide

theorem test_meets_portRefusesMalformedRequests :
    PortReady up ∧ requestFrame (.unknownRequest 0x07 1 []) = some ⟨0x07, 1, []⟩ ∧ requestKindOf 0x07 = none
      ∧ requestKindOf 0x45 = none ∧ requestFrame (.dial 1 [8, 2]) = some ⟨0x10, 1, [8, 2]⟩
      ∧ requestKindOf 0x10 = some .dial ∧ acceptsLength .dial 2 = false ∧ acceptsLength .dial 4 = false
      ∧ acceptsLength .send 81 = false ∧ acceptsLength .dial 3 = true ∧ namesCircuit .dial = true
      ∧ 8 ≤ (([8, 2, 1] : List Byte).headD 0).toNat := by decide

theorem test_meets_oneReplyForEachRequest :
    let full := connected.setCells 6 { sendQueue := List.replicate 16 [1], receiveQueue := [], reserved := 4 }
    requestFrame (.send 1 [6, 7]) = some ⟨0x20, 1, [6, 7]⟩ ∧ PortReady up ∧ PortReady full
      ∧ status (after (.send 1 [6, 7]) up) = some .badState
      ∧ status (after (.send 1 [6, 7]) full) = some .queueFull
      ∧ ((after (.send 1 [6, 7]) full).ctx 6).refusedMarker = true
      ∧ circuitOf (([6, 7] : List Byte).headD 0) = some 6 := by decide

theorem test_meets_hostBytesMakeTheRequest :
    up.power = .running ∧ up.port.framer = .hunting ∧ (List.replicate 80 (0 : Byte)).length ≤ 80 := by decide

theorem test_meets_framerTakesAndDiscardsBytes :
    up.port.framer = .hunting ∧ (framing .awaitingLength).port.framer = .awaitingLength
      ∧ 2 ≤ (2 : Byte).toNat ∧ (82 : Byte).toNat ≤ 82 ∧ (1 : Byte).toNat < 2 ∧ 82 < (83 : Byte).toNat
      ∧ (framing (.collecting 2 [0x40])).port.framer = .collecting 2 [0x40]
      ∧ (framing (.awaitingCheck 2 [0x40, 0] none)).port.framer = .awaitingCheck 2 [0x40, 0] none
      ∧ (framing (.awaitingCheck 2 [0x40, 0] (some 0))).port.framer = .awaitingCheck 2 [0x40, 0] (some 0)
      ∧ (framing .awaitingLength).port.framer ≠ .hunting ∧ (framing .awaitingLength).power = .running := by decide

set_option maxRecDepth 4000 in
theorem test_meets_framerDiscardsOnItsCheck : le16 (crc16 [2, 0x40, 0]) ≠ [0, 0] := by decide

theorem test_meets_repliesLeaveAndRestartWaits :
    let s (n m : Nat) (r : RestartStage) : State :=
      { up with
        port :=
          { up.port with
            intake := List.replicate m ⟨0x40, 5, []⟩, replies := List.replicate n ⟨.ok, 1, []⟩, restart := r } }
    (s 0 0 .none).port.replies = [] ∧ (s 1 0 .none).port.replies = ⟨.ok, 1, []⟩ :: [] ∧ (s 1 0 .none).port.intake = []
      ∧ (s 4 1 .none).port.replies = ⟨.ok, 1, []⟩ :: List.replicate 3 ⟨.ok, 1, []⟩
      ∧ (s 4 1 .none).port.intake = ⟨0x40, 5, []⟩ :: [] ∧ (s 4 1 .none).port.restart = .none
      ∧ (s 2 0 .waiting).port.restart = .waiting
      ∧ (s 2 0 .waiting).power = .running ∧ PortReady (s 3 0 .none) := by decide

/-- The premise of every statement about requests, and the flags, numbers and values at the ends of their ranges. -/
theorem test_meets_portReady : PortReady State.reset ∧ PortReady up ∧ PortReady connected := by decide

theorem test_meets_identAndCountersReply : PortReady up ∧ (2 : Byte) ≠ 0 ∧ (2 : Byte) ≠ 1 := by decide

theorem test_meets_getReadsOneParameter :
    PortReady up ∧ (0 : Byte).toNat < 1 ∧ 16 < (17 : Byte).toNat ∧ 1 ≤ (1 : Byte).toNat ∧ (16 : Byte).toNat ≤ 16 := by
  decide

theorem test_meets_setWritesOneParameter :
    let table : List (Param × Nat × Nat) :=
      [(.ackTimeout, 1, 50), (.replayLimit, 1, 15), (.errorThreshold, 1, 255), (.errorWindow, 10, 1000),
        (.retuneTimeout, 5, 200), (.retuneLimit, 1, 7), (.faultHold, 20, 1000), (.trainTimeout, 10, 5000),
        (.helloInterval, 1, 10), (.dialTimeout, 10, 10000), (.ringTimeout, 10, 10000), (.quietHoldoff, 1, 100),
        (.napAskTimeout, 1, 100), (.rouseTimeout, 1, 100), (.closeTimeout, 1, 100), (.autoFollow, 0, 1)]
    let v (low high : Byte) : Nat := low.toNat + 256 * high.toNat
    PortReady up ∧ 16 < (17 : Byte).toNat ∧ 1 ≤ (10 : Byte).toNat
      ∧ table[(10 : Byte).toNat - 1]? = some (.dialTimeout, 10, 10000) ∧ v 9 0 < 10 ∧ 10000 < v 0x11 0x27
      ∧ 10 ≤ v 0x10 0x27 ∧ v 0x10 0x27 ≤ 10000 ∧ v 0x10 0x27 ≠ up.port.parameters.get .dialTimeout
      ∧ v 250 0 = up.port.parameters.get .dialTimeout := by decide

theorem test_meets_setRestartsRunningTimers : up.port.parameters.get .ackTimeout ≠ 50 := by decide

theorem test_meets_requestSlotKeepsAndReplaces :
    let l (w : Option RequestSlot) (o : Option Byte) : Slots := { Slots.empty with request := w, overflow := o }
    let x : Context := { Context.atStart with state := .dialing, callNumber := 6 }
    (l none none).request = none ∧ (l (some ⟨.hang, 5, false, false⟩) none).request = some ⟨.hang, 5, false, false⟩
      ∧ x.isCurrent 5 = false ∧ (l (some ⟨.dial 4, 6, false, false⟩) none).request = some ⟨.dial 4, 6, false, false⟩
      ∧ x.isCurrent 6 = true ∧ (l none none).overflow ≠ some 5 ∧ (l none (some 5)).overflow = some 5 := by decide

theorem test_meets_offerDeclined :
    let s := up.setCtx 6 { Context.atStart with state := .ringing, callNumber := 5, timer := .ring 200 }
    s.power = .running ∧ (s.ctx 6).timer = .ring 200 := by decide

theorem test_meets_dialTimerAndHoldoffExpire :
    let s := up.setCtx 6 { Context.atStart with state := .dialing, timer := .dial 250, holdoff := some 2 }
    s.power = .running ∧ (s.ctx 6).timer = .dial 250 ∧ (s.ctx 6).holdoff = some 2 := by decide

theorem test_meets_sendQueuesAPayload : PortReady connected ∧ (List.replicate 79 (0 : Byte)).length ≤ 79 := by decide

theorem test_meets_fetchAndDiscardReturnCells :
    let s := connected.setCells 6 { sendQueue := [], receiveQueue := [[7], [8]], reserved := 2 }
    PortReady s ∧ (s.cells 6).receiveQueue = [7] :: [[8]] ∧ (connected.cells 6).receiveQueue = []
      ∧ (2 : Byte) ≠ 0 ∧ (2 : Byte) ≠ 1 := by decide

theorem test_meets_maskAndDismiss :
    PortReady up ∧ pairOf 0 2 = none ∧ pairOf 10 0 = none ∧ pairOf 0 0 = some .trunkState ∧ pairOf 9 3 = some (.room 7)
      ∧ (2 : Byte) ≠ 0 ∧ (2 : Byte) ≠ 1 := by decide

theorem test_meets_accepts : Accepts up 0 6 6 ∧ Accepts (trunk .napAsking) 0 0 0 ∧ Accepts (trunk .retune) 0 7 7 := by
  decide

theorem test_meets_cellsBySequenceAndTrunkState :
    cellRow (.incomingHang 0 6 5) = some (0, 6, incomingHang 5) ∧ circuitOf 6 = some 6 ∧ up.power = .running
      ∧ up.link.state ∈ [.up, .napAsking, .retune, .rousing] ∧ ((0 : Byte) - up.checker.expected).toNat = 0
      ∧ ((127 : Byte) - up.checker.expected).toNat = 127 ∧ ((128 : Byte) - up.checker.expected).toNat = 128
      ∧ (trunk .nap).link.state = .nap ∧ (trunk .fault).link.state ∈ [.down, .training, .closing, .fault] := by
  refine ⟨rfl, ?_⟩
  decide

theorem test_meets_framesThatFailTheirCheck :
    up.power = .running ∧ wellFormed (.incomingHang 0 8 5) = false ∧ requestFrame (.incomingHang 0 8 5) = none
      ∧ wellFormed (.helloReceived 2 1 8 48) = false ∧ requestFrame (.helloReceived 2 1 8 48) = none := by decide

theorem test_meets_incomingDataCell :
    Accepts connected 0 6 6 ∧ 1 ≤ ([7] : Payload).length ∧ (List.replicate 64 (7 : Byte)).length ≤ 64 := by decide

theorem test_meets_trunkUpBeginsTraining :
    PortReady State.reset ∧ State.reset.link.state = .down ∧ (trunk .fault).link.state = .fault
      ∧ (trunk .fault).link.holdElapsed = false ∧ up.link.state ∉ [.down, .fault]
      ∧ (after .faultHoldExpiry (timed .fault .faultHold)).link.holdElapsed = true
      ∧ (timed .training .train).link.stateTimer = some ⟨.train, 5⟩ := by decide

theorem test_meets_timers :
    (timed .rousing .rouse).link.stateTimer = some ⟨.rouse, 5⟩
      ∧ (timed .closing .close).link.stateTimer = some ⟨.close, 5⟩
      ∧ (timed .fault .faultHold).link.stateTimer = some ⟨.faultHold, 5⟩
      ∧ (timed .napAsking .napAsk).link.stateTimer = some ⟨.napAsk, 5⟩
      ∧ (timed .retune .retune).link.stateTimer = some ⟨.retune, 5⟩
      ∧ (timed .retune .retune).power = .running := by decide

theorem test_meets_ackAndNakAtTheSender :
    outstanding.link.state ∈ [.up, .napAsking, .retune, .rousing]
      ∧ outstanding.retry.entries
        = [⟨21, 6, .data [1], 1⟩] ++ ⟨22, 6, .data [2], 1⟩ :: [⟨23, 6, .data [3], 1⟩]
      ∧ (∀ a ∈ ([⟨21, 6, .data [1], 1⟩] : List RetryEntry), a.sequence ≠ 22)
      ∧ (∀ a ∈ outstanding.retry.entries, a.sequence ≠ 20) ∧ (∀ a ∈ outstanding.retry.entries, a.sequence ≠ 24)
      ∧ (trunk .closing).link.state ∈ [.down, .training, .closing, .fault] ∧ (trunk .nap).link.state = .nap := by decide

theorem test_meets_frameCompletes :
    let s (x : LinkSignal) (st : TrunkState) : State :=
      { trunk st with
        link := { (trunk st).link with napGranted := true }
        transmit := { up.transmit with wire := some ⟨.linkAnswer, .signal x⟩ } }
    up.transmit.wire = none ∧ (s .ready .training).transmit.wire = some ⟨.linkAnswer, .signal .ready⟩
      ∧ (s .tuneOk .retune).link.state = .retune ∧ (s .napOk .up).link.napGranted = true
      ∧ (s .napOk .napAsking).link.state = .napAsking
      ∧ (s .rouseOk .up).transmit.wire = some ⟨.linkAnswer, .signal .rouseOk⟩
      ∧ (s .rouseOk .up).power = .running := by decide

theorem test_meets_transferAndRetuneTimersExpire :
    outstanding.retry.replayTimer = some 2
      ∧ outstanding.retry.replayCounter + 1 < outstanding.port.parameters.replayLimit
      ∧ outstanding.port.parameters.replayLimit ≤ 3 + 1 ∧ up.checker.errorWindow = some 100
      ∧ (after (.nap 1 []) up).link.repeatTimer = some 1 ∧ (timed .retune .retune).link.retuneCounter + 1 < 3
      ∧ (timed .retune .retune).port.parameters.retuneLimit ≤ 2 + 1 := by decide

theorem test_meets_arbiterOrder :
    up.transmit.wire = none ∧ up.choice = none ∧ (busy up).transmit.wire ≠ none
      ∧ (up.post (.ack 3)).choice = some (.ackNak (.ack 3)) := by decide

theorem test_meets_takingAFrame :
    let s := connected.setCells 6 { sendQueue := [[1], [2]], receiveQueue := [], reserved := 4 }
    (s.cells 6).sendQueue = [1] :: [[2]] ∧ s.power = .running ∧ s.transmit.wire = none
      ∧ (busy s).transmit.wire = some ⟨.linkStanding, .signal .tune⟩ := by decide

theorem test_meets_trunkFrameRoundTrip :
    1 ≤ ([7] : Payload).length ∧ (List.replicate 64 (7 : Byte)).length ≤ 64
      ∧ ((1 : Byte) = 0 ∨ (1 : Byte) = 1) := by decide

/-- A state that meets the laws' premises with more than the reset values in it: a call, a data cell outstanding and one
held, a notice queued, and a command at the front of the queue. -/
def lawful : State :=
  { connected with
    circuits := connected.circuits.set 6 { connected.ctx 6 with sentCount := 1, receivedCount := 1 }
    pool := { connected.pool with free := 251, cells := connected.pool.cells.set 6 ⟨[], [[7]], 3⟩ }
    retry := { RetryUnit.atStart with entries := [⟨0, 6, .data [1], 1⟩], nextSequence := 1, replayTimer := some 2 }
    notices := NoticeUnit.atStart.occurrence (.arrived 6)
    pending := [.trunkFrameComplete] }

theorem test_meets_everyStepKeepsThePool : PoolLaw lawful ∧ ∃ t, step lawful = .next t := by
  refine ⟨?_, _, rfl⟩
  unfold PoolLaw
  decide

theorem test_meets_everyStepKeepsTheCallLaws : CallLaw lawful ∧ PortLaw lawful := by
  refine ⟨fun c => ?_, by decide, by decide, by decide⟩
  fin_cases c <;> unfold CircuitLaw <;> decide

theorem test_meets_everyStepKeepsTheRetryLaws : RetryLaw lawful :=
  ⟨by decide, by decide, fun _ h => (nomatch h), by decide, by decide⟩

theorem test_meets_everyStepKeepsTheNoticeLaws : NoticeLaw lawful := by
  refine ⟨by decide, by decide, fun p => ?_, by decide, by decide⟩
  rcases p with _ | _ | _ | c | c | c <;> first | decide | (fin_cases c <;> decide)

theorem test_meets_everyStepKeepsTheNappingLaws : NapLaw lawful :=
  ⟨fun _ h => (nomatch h), by decide, by decide, by decide⟩

end Sys2Proof.Tests
end

section
/-!
SUPPORT. What a request row and a cell row do, said once for all of them: the row at a part ready for it is its
request's or its cell's claim (R90, R178, R179).
-/

namespace Sys2Proof.Machine

/-! ## Request rows -/

/-- A request row is the arrival of its frame. -/
theorem exec_of_requestFrame {i : Instr} {f : HostFrame} (hf : requestFrame i = some f) (s : State) :
    exec i s = s.hostFrame f.kind f.tag f.body := by
  cases i <;> cases hf <;> rfl

/-- A request that passes the port's two checks at a ready part is its owner's claim, with the owner's reply. -/
theorem exec_of_readRequest {i : Instr} {f : HostFrame} {r : Request} {s : State} (h : PortReady s)
    (hf : requestFrame i = some f) (hr : readRequest f.kind f.body = .ok r) :
    exec i s = .next ((handRequest s r).reply f.tag).settle := by
  rw [exec_of_requestFrame hf, State.hostFrame_ready h, State.judge, hr]

@[simp] theorem withCircuit_circuitByte (c : CircuitId) (s : State) (f : CircuitId → Taken) :
    withCircuit (circuitByte c) s f = f c := by simp [withCircuit]

@[simp] theorem State.taken_reply (s : State) (tag : Byte) : s.taken.reply tag = s.answered .ok tag [] := rfl

@[simp] theorem State.refuse_reply (s : State) (st : Status) (tag : Byte) :
    (s.refuse st).reply tag = s.answered st tag [] := rfl

/-! ## Cell rows -/

@[simp] theorem State.accepting_ctx (s : State) (c : CircuitId) : s.accepting.ctx c = s.ctx c := rfl
@[simp] theorem State.accepting_slots (s : State) (c : CircuitId) : s.accepting.slots c = s.slots c := rfl

/-- A cell row is the cell it brings. -/
theorem exec_of_cellRow {i : Instr} {q b : Byte} {owner : CircuitId → State → State}
    (hi : cellRow i = some (q, b, owner)) (s : State) : exec i s = s.cellCommand q b owner := by
  cases i with
  | incomingDataCell _ _ payload =>
    simp only [cellRow, Option.ite_none_right_eq_some] at hi
    obtain ⟨hfits, ⟨⟩⟩ := hi
    exact if_pos hfits
  | _ => cases hi <;> rfl

/-- An accepted cell row is its owner's claim on the state that has accepted the cell. -/
theorem exec_of_accepts {i : Instr} {s : State} {q b : Byte} {c : CircuitId} {owner : CircuitId → State → State}
    (h : Accepts s q b c) (hi : cellRow i = some (q, b, owner)) :
    exec i s = .next (owner c s.accepting).settle := by
  rw [exec_of_cellRow hi, State.cellCommand_accepts h]

end Sys2Proof.Machine
end

section
/-!
SUPPORT. Calls: what a close-down leaves for the words that follow it, when a word matches the current call, and what
the call words do to a circuit, by its state (chapter Circuit Contexts and Calls).
-/

namespace Sys2Proof.Machine

/-! ## Matching and ranges (R5, R34) -/

theorem CircuitState.hasCurrentCall_iff (st : CircuitState) :
    st.hasCurrentCall = true ↔ st ∉ [CircuitState.idle, .barred] := by
  cases st <;> decide

theorem Context.isCurrent_iff (x : Context) (k : Byte) :
    x.isCurrent k = true ↔ x.state ∉ [CircuitState.idle, .barred] ∧ x.callNumber = k := by
  simp only [Context.isCurrent, Bool.and_eq_true, CircuitState.hasCurrentCall_iff, beq_iff_eq]

/-- In a state that has a current call, a word matches by its call number alone. -/
theorem Context.isCurrent_of_hasCurrentCall {x : Context} (h : x.state.hasCurrentCall = true) (k : Byte) :
    x.isCurrent k = true ↔ x.callNumber = k := by
  simp [Context.isCurrent, h]

/-- A DIALING call's word, or a RELEASING call's, matches by its call number alone. -/
theorem Context.isCurrent_and_state {x : Context} {st : CircuitState} (h : st.hasCurrentCall = true) (k : Byte) :
    (x.isCurrent k = true ∧ x.state = st) ↔ (x.state = st ∧ x.callNumber = k) := by
  constructor
  · rintro ⟨hk, rfl⟩
    exact ⟨rfl, (isCurrent_of_hasCurrentCall h k).mp hk⟩
  · rintro ⟨rfl, hk⟩
    exact ⟨(isCurrent_of_hasCurrentCall h k).mpr hk, rfl⟩

theorem isWindow_eq_false_iff (w : Byte) : isWindow w = false ↔ w.toNat < 2 ∨ 32 < w.toNat := by
  rw [isWindow, decide_eq_false_iff_not, not_and_or, not_le, not_le]
  rfl

theorem rejectCauseOf_of_out_of_range {w : Byte} (h : 3 < w.toNat) : rejectCauseOf w = none := by
  obtain ⟨n, hn⟩ : ∃ n, w.toNat = n + 4 := ⟨w.toNat - 4, by omega⟩
  simp [rejectCauseOf, hn]

theorem rejectCauseOf_of_in_range {w : Byte} (h : ¬ 3 < w.toNat) :
    rejectCauseOf w =
      some (if w = 0 then .refused else if w = 1 then .noAnswer else if w = 2 then .barred else .held) := by
  have hw : w = 0 ∨ w = 1 ∨ w = 2 ∨ w = 3 := by bv_omega
  obtain rfl | rfl | rfl | rfl := hw <;> rfl

/-! ## Close-down (R8) -/

@[simp] theorem State.releaseCells_callNumber (s : State) (n : Nat) (d : CircuitId) :
    ((s.releaseCells n).ctx d).callNumber = (s.ctx d).callNumber := by
  unfold State.releaseCells
  split
  · rfl
  · rw [State.freeingEvent_ctx]
    rfl

/-- A call keeps its number through its close-down. -/
@[simp] theorem State.closeDown_callNumber (s : State) (c d : CircuitId) (keepRole : Bool) :
    ((s.closeDown c keepRole).ctx d).callNumber = (s.ctx d).callNumber := by
  have hreturn : ((s.returnCallCells c).ctx d).callNumber = (s.ctx d).callNumber := by
    rw [State.returnCallCells, State.releaseCells_callNumber]
    rfl
  rw [State.closeDown, State.ctx_setCtx]
  split
  · next hd => rw [← hreturn, hd]; rfl
  · exact hreturn

@[simp] theorem State.closeDown_slots (s : State) (c : CircuitId) (keepRole : Bool) :
    (s.closeDown c keepRole).slots c = .empty := by
  simp [State.closeDown]

/-- A word that answers the call just closed down is the only one left in the circuit's slots. -/
theorem State.closeDown_placeAnswer (s : State) (c : CircuitId) (keepRole : Bool) (w : AnswerWord) (k : Byte) :
    (s.closeDown c keepRole).placeAnswer c w k
      = (s.closeDown c keepRole).setSlots c ⟨none, none, some ⟨w, k⟩, none⟩ := by
  rw [State.placeAnswer, State.closeDown_slots]
  rfl

/-! ## The end of an offer (R16, R17) -/

theorem State.declineCall_eq (s : State) (c : CircuitId) (reason : Byte) (cause : CircuitCause) :
    s.declineCall c reason cause
      = ((s.closeDown c false).setSlots c ⟨none, none, some ⟨.reject reason, (s.ctx c).callNumber⟩, none⟩).enter c
          .idle cause := by
  rw [State.declineCall, State.closeDown_callNumber, State.closeDown_placeAnswer]

theorem State.ringExpires_ring {s : State} {c : CircuitId} {ms : Nat} (h : (s.ctx c).timer = .ring ms) :
    s.ringExpires c = s.declineCall c reasonNoAnswer .noAnswer := by
  simp only [State.ringExpires, h]

/-! ## HANG and HANG-DONE (R25 to R27) -/

theorem State.hungUp_answered (s : State) (c : CircuitId) (cause : CircuitCause) :
    s.hungUp c cause true
      = ((s.closeDown c false).setSlots c ⟨none, none, some ⟨.hangDone, (s.ctx c).callNumber⟩, none⟩).enter c
          .idle cause := by
  rw [← State.closeDown_placeAnswer]
  rfl

theorem State.hungUp_unanswered (s : State) (c : CircuitId) (cause : CircuitCause) :
    s.hungUp c cause false = (s.closeDown c false).enter c .idle cause := rfl

/-- A HANG that does not match, or that reaches a circuit without a call to end, is ignored. -/
theorem incomingHang_ignored {k : Byte} {c : CircuitId} {s : State}
    (h : (s.ctx c).callNumber ≠ k ∨ (s.ctx c).state ∈ [CircuitState.idle, .barred, .failed]) :
    incomingHang k c s = s := by
  unfold incomingHang
  split
  case isFalse => rfl
  case isTrue hcurrent =>
    obtain ⟨-, hk⟩ := (Context.isCurrent_iff _ _).mp hcurrent
    have hstate := h.resolve_left (not_not_intro hk)
    simp only [List.mem_cons, List.not_mem_nil, or_false] at hstate
    obtain hstate | hstate | hstate := hstate <;> rw [hstate]

/-- A HANG that matches ends a call that this side was not releasing (R25). -/
theorem incomingHang_ends_call {k : Byte} {c : CircuitId} {s : State} (hk : (s.ctx c).callNumber = k)
    (hstate : (s.ctx c).state ∉ [CircuitState.idle, .barred, .failed]) (hreleasing : (s.ctx c).state ≠ .releasing) :
    incomingHang k c s = s.hungUp c .peer true := by
  unfold incomingHang Context.isCurrent
  cases hst : (s.ctx c).state with
  | idle | barred | failed => simp [hst] at hstate
  | releasing => exact absurd hst hreleasing
  | dialing | ringing | connected | quieting | quiet | waking => simp [hk, CircuitState.hasCurrentCall]

/-- A HANG that matches ends a release, with HANG-DONE where this side's own HANG is unsent (R26). -/
theorem incomingHang_ends_release {k : Byte} {c : CircuitId} {s : State} (hk : (s.ctx c).callNumber = k)
    (hreleasing : (s.ctx c).state = .releasing) :
    incomingHang k c s = s.hungUp c .host ((s.slots c).holdsHang k) := by
  simp [incomingHang, Context.isCurrent, hreleasing, hk, CircuitState.hasCurrentCall]

end Sys2Proof.Machine
end

section
/-!
PROOFS. Offers, answers and releases: O21, O35, O36.
-/

namespace Sys2Proof.Proofs

open Sys2Proof Sys2Proof.Machine

/-- Settles O21: both ways of ending an offer are `declineCall`, whose REJECT stands alone in the emptied slots. -/
theorem offerDeclined : Obligations.OfferDeclined := by
  intro s tag c declined
  have hdeclined (reason : Byte) (cause : CircuitCause) : s.declineCall c reason cause = declined reason cause :=
    s.declineCall_eq c reason cause
  constructor
  · intro hready
    rw [exec_of_readRequest hready rfl rfl, handRequest, withCircuit_circuitByte, refuseRequest, hdeclined]
    by_cases hringing : (s.ctx c).state = .ringing
    · rw [if_pos hringing, if_pos hringing, State.taken_reply]
      rfl
    · rw [if_neg hringing, if_neg hringing, State.refuse_reply]
  · intro ms hpower htimer
    calc exec (.ringTimerExpiry c) s
        = s.event fun u => u.ringExpires c := rfl
      _ = .next (s.ringExpires c).settle := State.event_running hpower _
      _ = .next (declined 1 .noAnswer).settle := by rw [State.ringExpires_ring htimer, hdeclined]; rfl

/-- Settles O35, by the range of the word's value, then by whether it matches the circuit's current call. -/
theorem incomingAnswerAndReject : Obligations.IncomingAnswerAndReject := by
  intro s q b k w c haccepts u x bad current
  have hcurrent : x.isCurrent k = current := by
    rw [Bool.eq_iff_iff, Context.isCurrent_iff, decide_eq_true_iff]
  constructor
  · rw [exec_of_accepts haccepts rfl]
    congr 2
    by_cases hw : w.toNat < 2 ∨ 32 < w.toNat
    · rw [if_pos hw, incomingAnswer, (isWindow_eq_false_iff w).mpr hw]
      rfl
    · have hwindow : isWindow w = true := by
        rwa [← isWindow_eq_false_iff, Bool.not_eq_false] at hw
      rw [if_neg hw, incomingAnswer, if_pos hwindow, State.takeAnswer, State.accepting_ctx, hcurrent]
      cases current <;> rfl
  · rw [exec_of_accepts haccepts rfl]
    congr 2
    by_cases hw : 3 < w.toNat
    · rw [if_pos hw, incomingReject, rejectCauseOf_of_out_of_range hw]
      rfl
    · rw [if_neg hw, incomingReject, rejectCauseOf_of_in_range hw]
      exact if_congr (Context.isCurrent_and_state rfl k) rfl rfl

/-- Settles O36: a HANG is ignored, ends a release or ends another call; a HANG-DONE only ends a release. -/
theorem incomingHangAndHangDone : Obligations.IncomingHangAndHangDone := by
  intro s q b k c haccepts u x closed done
  constructor
  · rw [exec_of_accepts haccepts rfl]
    congr 2
    by_cases hignored : x.callNumber ≠ k ∨ x.state ∈ [.idle, .barred, .failed]
    · rw [if_pos hignored]
      exact incomingHang_ignored hignored
    · rw [if_neg hignored]
      obtain ⟨hmatches, hstate⟩ := not_or.mp hignored
      have hk : x.callNumber = k := not_not.mp hmatches
      have hanswered (cause : CircuitCause) : u.hungUp c cause true = done.enter c .idle cause := by
        rw [State.hungUp_answered]
        show (closed.setSlots c ⟨none, none, some ⟨.hangDone, x.callNumber⟩, none⟩).enter c .idle cause = _
        rw [hk]
      by_cases hreleasing : x.state = .releasing
      · rw [if_neg (not_not_intro hreleasing), incomingHang_ends_release (s := u) hk hreleasing, State.accepting_slots]
        cases (s.slots c).holdsHang k with
        | true => exact hanswered .host
        | false => exact u.hungUp_unanswered c .host
      · rw [if_pos hreleasing, incomingHang_ends_call (s := u) hk hstate hreleasing, hanswered]
  · rw [exec_of_accepts haccepts rfl]
    congr 2
    exact if_congr (Context.isCurrent_and_state rfl k) (u.hungUp_unanswered c .host) rfl

end Sys2Proof.Proofs
end

section
/-!
SUPPORT. Retune: the request, the entry to RETUNE and the running of the state timer (chapter Trunk States).
-/

namespace Sys2Proof.Machine

/-- The kind of a running state timer, whatever its milliseconds (R119). -/
theorem LinkController.timerRuns_of_stateTimer {l : LinkController} {k : StateTimerKind} {ms : Nat}
    (h : l.stateTimer = some ⟨k, ms⟩) : l.timerRuns k = true := by
  simp [LinkController.timerRuns, h]

theorem retuneRequest_up {s : State} (h : s.link.state = .up) :
    retuneRequest s = (s.retuneCause .host false).taken := if_pos h

theorem retuneRequest_refused {s : State} (h : s.link.state ≠ .up) : retuneRequest s = s.refuse .badState :=
  if_neg h

/-- A TUNE turns this side's own TUNE into TUNE-OK (R129). -/
theorem State.tuneInRetune_tune {s : State} (h : s.transmit.linkSlot.standing = some .tune) :
    s.tuneInRetune = State.stand { s with link := { s.link with tuneHeard := true } } .tuneOk := by
  simp only [State.tuneInRetune, h]

/-- A TUNE that finds no standing TUNE makes the standing signal due again (R129). -/
theorem State.tuneInRetune_resent {s : State} (h : s.transmit.linkSlot.standing ≠ some .tune) :
    s.tuneInRetune
      = { s with
          link := { s.link with tuneHeard := true }
          transmit := { s.transmit with linkSlot := { s.transmit.linkSlot with due := true } } } := by
  dsimp only [State.tuneInRetune]
  split
  case h_1 hstanding => exact absurd hstanding h
  case h_2 => rfl

/-- The state in RETUNE just after its entry, before the waking circuits of a rouse are resolved (R127). -/
def State.retuning (s : State) (cause : TrunkCause) (heard : Bool) : State :=
  let u := s.changeTrunk .retune (some cause)
  let u := { u with link := { u.link with tuneHeard := heard, retunes := addToCounter s.link.retunes 1 } }
  ((u.stand (if heard then .tuneOk else .tune)).startTimer .retune s.port.parameters.retuneTimeout).report .trunkError

/-- Only an entry from ROUSING resolves the waking circuits (R127, R154). -/
theorem State.enterRetune_eq (s : State) (cause : TrunkCause) (heard : Bool) :
    s.enterRetune cause heard
      = if s.link.state = .rousing then (s.retuning cause heard).resolveWaking else s.retuning cause heard :=
  if_congr beq_iff_eq rfl rfl

/-- A cause is counted before the limit is compared, and both outcomes start from the counted state (R127). -/
theorem State.retuneCause_eq (s : State) (cause : TrunkCause) (heard : Bool) :
    s.retuneCause cause heard
      = let counted := { s with link := { s.link with retuneCounter := s.link.retuneCounter + 1 } }
        if s.port.parameters.retuneLimit ≤ s.link.retuneCounter + 1 then counted.enterFault .retuneLimit
        else if s.link.state = .rousing then (counted.retuning cause heard).resolveWaking
        else counted.retuning cause heard :=
  if_congr Iff.rfl rfl (State.enterRetune_eq _ cause heard)

end Sys2Proof.Machine
end

section
/-!
PROOFS. Trunk states: O44.
-/

namespace Sys2Proof.Proofs

open Sys2Proof Sys2Proof.Machine

/-- Settles O44: a cause is counted and compared with the limit; the request and the TUNE follow the trunk state, and
the rouse timer's expiry is a cause whatever the trunk state is. -/
theorem retuneCausesAndTune : Obligations.RetuneCausesAndTune := by
  intro s tag cause heard counted u entered marked tuned
  have htuned : s.tuneInRetune = tuned := by
    dsimp only [tuned]
    split
    case h_1 hstanding => exact State.tuneInRetune_tune hstanding
    case h_2 hstanding => exact State.tuneInRetune_resent hstanding
  refine ⟨s.retuneCause_eq cause heard, fun hready => ?_, fun hpower => ⟨?_, fun ms htimer => ?_⟩⟩
  · rw [exec_of_readRequest hready rfl rfl, handRequest]
    congr 2
    by_cases hup : s.link.state = .up
    · rw [if_pos hup, retuneRequest_up hup, State.taken_reply]
    · rw [if_neg hup, retuneRequest_refused hup, State.refuse_reply]
  · have htune : exec .tuneReceived s = .next s.takeTune.settle := State.event_running hpower State.takeTune
    rw [htune, State.takeTune]
    cases s.link.state with
    | retune => exact congrArg (fun v : State => Host.Outcome.next v.settle) htuned
    | up | napAsking | rousing | nap | down | training | closing | fault => rfl
  · calc exec .rouseTimerExpiry s
        = s.event fun v => if v.link.timerRuns .rouse then v.retuneCause .rouseTimeout false else v := rfl
      _ = .next (if s.link.timerRuns .rouse then s.retuneCause .rouseTimeout false else s).settle :=
          State.event_running hpower _
      _ = .next (s.retuneCause .rouseTimeout false).settle := by
          rw [if_pos (LinkController.timerRuns_of_stateTimer htimer)]

end Sys2Proof.Proofs
end

section
/-!
SUPPORT. Parameters: what a number names, as a place in the Parameter Table's order, and the reply of GET (chapter The
Host Port).
-/

namespace Sys2Proof.Machine

/-- The sixteen parameters in the order of their numbers, from 1 on (R182). -/
def parameterOrder : List Param :=
  [.ackTimeout, .replayLimit, .errorThreshold, .errorWindow, .retuneTimeout, .retuneLimit, .faultHold, .trainTimeout,
    .helloInterval, .dialTimeout, .ringTimeout, .quietHoldoff, .napAskTimeout, .rouseTimeout, .closeTimeout,
    .autoFollow]

/-- A number from 1 on names the parameter at its place in the order, and none past the order's end. -/
theorem paramOf_eq_getElem? {n : Byte} (h : 1 ≤ n.toNat) : paramOf n = parameterOrder[n.toNat - 1]? := by
  obtain ⟨i, hi⟩ : ∃ i, n.toNat = i + 1 := ⟨n.toNat - 1, by omega⟩
  rw [paramOf, hi, Nat.add_sub_cancel]
  match i with
  | 0 | 1 | 2 | 3 | 4 | 5 | 6 | 7 | 8 | 9 | 10 | 11 | 12 | 13 | 14 | 15 => rfl
  | _ + 16 => rfl

theorem paramOf_of_out_of_range {n : Byte} (h : n.toNat < 1 ∨ 16 < n.toNat) : paramOf n = none := by
  obtain hzero | hlarge := h
  · rw [paramOf, Nat.lt_one_iff.mp hzero]
    rfl
  · rw [paramOf_eq_getElem? (by omega), List.getElem?_eq_none_iff]
    exact Nat.le_sub_one_of_lt hlarge

theorem paramOf_of_in_range {n : Byte} (hleast : 1 ≤ n.toNat) (hgreatest : n.toNat ≤ 16) :
    ∃ p, paramOf n = some p ∧ parameterOrder[n.toNat - 1]? = some p := by
  have hplace : n.toNat - 1 < parameterOrder.length := Nat.sub_one_lt_of_le hleast hgreatest
  rw [paramOf_eq_getElem? hleast]
  exact ⟨_, List.getElem?_eq_getElem hplace, List.getElem?_eq_getElem hplace⟩

@[simp] theorem State.answering_reply (s : State) (tag : Byte) (body : List Byte) :
    (s.answering body).reply tag = s.answered .ok tag body := rfl

theorem getRequest_refused {n : Byte} (h : paramOf n = none) (s : State) :
    getRequest n s = s.refuse .badValue := by rw [getRequest, h]

theorem getRequest_named {n : Byte} {p : Param} (h : paramOf n = some p) (s : State) :
    getRequest n s = s.answering (n :: count16 (s.port.parameters.get p)) := by rw [getRequest, h]

end Sys2Proof.Machine
end

section
/-!
PROOFS. The host port: O13.
-/

namespace Sys2Proof.Proofs

open Sys2Proof Sys2Proof.Machine

/-- Settles O13: the listed values are the table read in the parameters' order, so the number picks the value of the
parameter it names. -/
theorem getReadsOneParameter : Obligations.GetReadsOneParameter := by
  intro s tag n hready t values
  have hget : exec (.get tag [n]) s = .next ((getRequest n s).reply tag).settle := by
    rw [exec_of_readRequest hready rfl rfl, handRequest]
  constructor
  · intro hout
    rw [hget, getRequest_refused (paramOf_of_out_of_range hout), State.refuse_reply]
  · intro hleast hgreatest
    obtain ⟨p, hnamed, hplace⟩ := paramOf_of_in_range hleast hgreatest
    have hvalues : values = parameterOrder.map t.get := rfl
    have hvalue : values.getD (n.toNat - 1) 0 = t.get p := by
      rw [hvalues, List.getD_eq_getElem?_getD, List.getElem?_map, hplace]
      rfl
    rw [hget, getRequest_named hnamed, State.answering_reply, hvalue]
    rfl

end Sys2Proof.Proofs
end

section
/-!
SUPPORT. The laws as the steps use them, and what it takes to keep them: one relation, `Keeps`, for all that a claim of
the blocks can do to the laws, with its rules for a claim that touches one circuit and for a change of trunk state.
-/

namespace Sys2Proof.Machine

/-! ## The laws, restated -/

/-- The circuit states that a trunk state admits (R149, R156). -/
def TrunkState.admits (u : TrunkState) (st : CircuitState) : Bool :=
  match u with
  | .napAsking => st.mayNap
  | .nap | .rousing => st.mayNap || st == .waking
  | .down | .training | .up | .retune | .closing | .fault => st != .waking

/-- The trunk states in which nothing is outstanding by the napping laws (R156). -/
def TrunkState.isStill : TrunkState → Bool
  | .napAsking | .nap | .rousing => true
  | .down | .training | .up | .retune | .closing | .fault => false

theorem TrunkState.admits_iff (u : TrunkState) (st : CircuitState) :
    u.admits st = true ↔
      (u = .napAsking → st.mayNap = true) ∧ (u.isNapping = true → st.mayNap = true ∨ st = .waking)
        ∧ (st = .waking → u.isNapping = true) := by
  cases u <;> cases st <;> decide

theorem TrunkState.isStill_iff (u : TrunkState) : u.isStill = true ↔ u = .napAsking ∨ u.isNapping = true := by
  cases u <;> decide

/-- The napping laws with one test for all circuits. -/
theorem napLaw_iff (s : State) :
    NapLaw s ↔
      (∀ t, s.link.stateTimer = some t → timerState t.kind = s.link.state)
      ∧ (s.link.state.isStill = true → s.retry.entries = [])
      ∧ ∀ c, s.link.state.admits (s.ctx c).state = true := by
  simp only [TrunkState.admits_iff, TrunkState.isStill_iff]
  constructor
  · rintro ⟨htimer, hasking, hnapping, hwaking⟩
    exact ⟨htimer, fun h => h.elim (fun h => (hasking h).1) (fun h => (hnapping h).1),
      fun c => ⟨fun h => (hasking h).2 c, fun h => (hnapping h).2 c, hwaking c⟩⟩
  · rintro ⟨htimer, hstill, hadmits⟩
    exact ⟨htimer, fun h => ⟨hstill (.inl h), fun c => (hadmits c).1 h⟩,
      fun h => ⟨hstill (.inr h), fun c => (hadmits c).2.1 h⟩, fun c => (hadmits c).2.2⟩

/-- The fields of a context that the laws of calls speak of agree. -/
structure Context.SameCall (x x' : Context) : Prop where
  state : x'.state = x.state
  window : x'.window = x.window
  sendDepth : x'.sendDepth = x.sendDepth
  creditLimit : x'.creditLimit = x.creditLimit
  sentCount : x'.sentCount = x.sentCount
  granted : x'.granted = x.granted
  receivedCount : x'.receivedCount = x.receivedCount
  answerWindow : x'.answerWindow = x.answerWindow

theorem Context.SameCall.refl (x : Context) : x.SameCall x := ⟨rfl, rfl, rfl, rfl, rfl, rfl, rfl, rfl⟩

theorem Context.SameCall.trans {x y z : Context} (h : x.SameCall y) (k : y.SameCall z) : x.SameCall z :=
  ⟨k.state.trans h.state, k.window.trans h.window, k.sendDepth.trans h.sendDepth, k.creditLimit.trans h.creditLimit,
    k.sentCount.trans h.sentCount, k.granted.trans h.granted, k.receivedCount.trans h.receivedCount,
    k.answerWindow.trans h.answerWindow⟩

theorem CircuitLaw.of_sameCall {x x' : Context} {y : Cells} (h : x.SameCall x') (law : CircuitLaw x y) :
    CircuitLaw x' y := by
  unfold CircuitLaw Context.credit at *
  rwa [h.state, h.window, h.sendDepth, h.creditLimit, h.sentCount, h.granted, h.receivedCount, h.answerWindow]

/-- What holds of the Notice Queue and its records whatever waits for an entry (R158, R162, R163). -/
structure NoticeUnit.Sound (n : NoticeUnit) : Prop where
  length : n.queue.length ≤ 16
  nodup : n.queue.Nodup
  queued : ∀ p, (n.record p).queued = true ↔ p ∈ n.queue
  counted : ∀ p ∈ n.queue, 1 ≤ (n.record p).unreported
  bounded : ∀ p, (n.record p).unreported ≤ 255
  attn : n.attn = !n.queue.isEmpty

/-- A pair that is unmasked and counts occurrences stands in the queue, or the queue is full (R159, R167). -/
def NoticeUnit.Served (n : NoticeUnit) (p : Pair) : Prop :=
  (n.record p).mask = false → 0 < (n.record p).unreported → p ∈ n.queue ∨ n.queue.length = 16

/-- The laws of the Notice Unit on a running part, the occurrences still to be taken apart. -/
structure NoticeUnit.Lawful (n : NoticeUnit) : Prop where
  sound : n.Sound
  served : ∀ p, n.Served p

/-- The occurrences reported in the claim are no matter of the laws. -/
theorem NoticeUnit.Lawful.raising {n : NoticeUnit} (law : n.Lawful) (q : List Pair) :
    NoticeUnit.Lawful { n with raised := q } :=
  ⟨⟨law.sound.length, law.sound.nodup, law.sound.queued, law.sound.counted, law.sound.bounded, law.sound.attn⟩,
    law.served⟩

theorem noticeLaw_iff {s : State} (h : s.power = .running) :
    NoticeLaw s ↔ s.notices.Lawful ∧ s.notices.raised = [] := by
  constructor
  · rintro ⟨hlength, hnodup, hpairs, hattn, hraised⟩
    exact ⟨⟨⟨hlength, hnodup, fun p => (hpairs p).1, fun p => (hpairs p).2.1, fun p => (hpairs p).2.2.1, hattn h⟩,
      fun p => (hpairs p).2.2.2⟩, hraised⟩
  · rintro ⟨⟨sound, served⟩, hraised⟩
    exact ⟨sound.length, sound.nodup, fun p => ⟨sound.queued p, sound.counted p, sound.bounded p, served p⟩,
      fun _ => sound.attn, hraised⟩

/-! ## What keeps them -/

/-- The step from `s` to `t` keeps the laws of the blocks, the power and the waiting commands. -/
structure BlocksKeep (s t : State) : Prop where
  power : t.power = s.power
  pending : t.pending = s.pending
  notices : s.notices.Lawful → t.notices.Lawful
  pool : PoolLaw s → PoolLaw t
  calls : CallLaw s → CallLaw t
  nap : NapLaw s → NapLaw t
  retry : s.power = .running → NapLaw s → RetryLaw s → RetryLaw t

/-- The host port's two queues are as they were, and a RESTART that waits goes on waiting. -/
structure QueuesKeep (s t : State) : Prop where
  intake : t.port.intake = s.port.intake
  replies : t.port.replies = s.port.replies
  restart : s.port.restart ≠ .none → t.port.restart ≠ .none

/-- The claim from `s` to `t` keeps all laws. -/
structure Keeps (s t : State) : Prop extends BlocksKeep s t, QueuesKeep s t

theorem BlocksKeep.refl (s : State) : BlocksKeep s s := ⟨rfl, rfl, id, id, id, id, fun _ _ => id⟩

theorem BlocksKeep.trans {s t u : State} (h : BlocksKeep s t) (k : BlocksKeep t u) : BlocksKeep s u where
  power := k.power.trans h.power
  pending := k.pending.trans h.pending
  notices := k.notices ∘ h.notices
  pool := k.pool ∘ h.pool
  calls := k.calls ∘ h.calls
  nap := k.nap ∘ h.nap
  retry hrunning hnap hretry := k.retry (h.power.trans hrunning) (h.nap hnap) (h.retry hrunning hnap hretry)

theorem Keeps.refl (s : State) : Keeps s s := ⟨.refl s, rfl, rfl, id⟩

theorem Keeps.trans {s t u : State} (h : Keeps s t) (k : Keeps t u) : Keeps s u :=
  ⟨h.toBlocksKeep.trans k.toBlocksKeep, k.intake.trans h.intake, k.replies.trans h.replies, k.restart ∘ h.restart⟩

/-- A state that a condition picks is kept where both are. -/
theorem Keeps.ite {s t u : State} {p : Prop} [Decidable p] (h : p → Keeps s t) (k : ¬ p → Keeps s u) :
    Keeps s (if p then t else u) := by
  split
  · next hp => exact h hp
  · next hp => exact k hp

/-! ## What the laws do not speak of -/

/-- Power, waiting commands, the port's queues and the Notice Queue are as they were, or lawful still. -/
structure SameRest (s t : State) : Prop extends QueuesKeep s t where
  power : t.power = s.power
  pending : t.pending = s.pending
  notices : s.notices.Lawful → t.notices.Lawful

theorem SameRest.refl (s : State) : SameRest s s := ⟨⟨rfl, rfl, id⟩, rfl, rfl, id⟩

theorem SameRest.trans {s t u : State} (h : SameRest s t) (k : SameRest t u) : SameRest s u :=
  ⟨⟨k.intake.trans h.intake, k.replies.trans h.replies, k.restart ∘ h.restart⟩, k.power.trans h.power,
    k.pending.trans h.pending, k.notices ∘ h.notices⟩

/-- What the laws of the trunk read of the Link Controller and the Retry Unit agrees. -/
structure SameTrunk (s t : State) : Prop where
  state : t.link.state = s.link.state
  timer : t.link.stateTimer.map (·.kind) = s.link.stateTimer.map (·.kind)
  entries : t.retry.entries = s.retry.entries
  next : t.retry.nextSequence = s.retry.nextSequence
  pointer : t.retry.replayPointer = s.retry.replayPointer
  replayTimer : t.retry.replayTimer.isSome = s.retry.replayTimer.isSome

theorem SameTrunk.refl (s : State) : SameTrunk s s := ⟨rfl, rfl, rfl, rfl, rfl, rfl⟩

theorem SameTrunk.trans {s t u : State} (h : SameTrunk s t) (k : SameTrunk t u) : SameTrunk s u :=
  ⟨k.state.trans h.state, k.timer.trans h.timer, k.entries.trans h.entries, k.next.trans h.next,
    k.pointer.trans h.pointer, k.replayTimer.trans h.replayTimer⟩

/-- What the laws of the Cell Pool and of calls read agrees. -/
structure SameCalls (s t : State) : Prop where
  free : t.pool.free = s.pool.free
  cells : ∀ c, t.cells c = s.cells c
  ctx : ∀ c, (s.ctx c).SameCall (t.ctx c)

theorem SameCalls.refl (s : State) : SameCalls s s := ⟨rfl, fun _ => rfl, fun _ => .refl _⟩

theorem SameCalls.calls {s t : State} (h : SameCalls s t) (law : CallLaw s) : CallLaw t := fun c => by
  rw [h.cells]
  exact (law c).of_sameCall (h.ctx c)

theorem SameCalls.cellsOf {s t : State} (h : SameCalls s t) : t.cellsOf = s.cellsOf := by
  funext c
  simp only [State.cellsOf, h.cells]

/-- The pool law reads the free cells, the circuits' and the entries' alone. -/
theorem PoolLaw.of_eq {s t : State} (hfree : t.pool.free + circuitSum t.cellsOf = s.pool.free + circuitSum s.cellsOf)
    (hentries : dataCells t.retry.entries = dataCells s.retry.entries) (law : PoolLaw s) : PoolLaw t := by
  unfold PoolLaw at *
  omega

theorem SameTrunk.napTimer {s t : State} (h : SameTrunk s t)
    (law : ∀ k, s.link.stateTimer = some k → timerState k.kind = s.link.state) (k : RunningTimer)
    (hk : t.link.stateTimer = some k) : timerState k.kind = t.link.state := by
  have hkind := h.timer
  rw [hk, Option.map_some, eq_comm, Option.map_eq_some_iff] at hkind
  obtain ⟨k', hk', hkind⟩ := hkind
  rw [h.state, ← law k' hk', hkind]

theorem SameTrunk.retry {s t : State} (h : SameTrunk s t) (hpower : t.power = s.power) (law : RetryLaw s) :
    RetryLaw t := by
  unfold RetryLaw at *
  rwa [h.state, h.entries, h.next, h.pointer, h.replayTimer, hpower]

/-- A claim that touches nothing the laws of the trunk and of calls read. -/
theorem Keeps.of_same {s t : State} (rest : SameRest s t) (trunk : SameTrunk s t) (same : SameCalls s t) :
    Keeps s t where
  toQueuesKeep := rest.toQueuesKeep
  power := rest.power
  pending := rest.pending
  notices := rest.notices
  pool := PoolLaw.of_eq (by rw [same.free, same.cellsOf]) (by rw [trunk.entries])
  calls := same.calls
  nap law := by
    rw [napLaw_iff] at law ⊢
    obtain ⟨htimer, hstill, hadmits⟩ := law
    refine ⟨trunk.napTimer htimer, ?_, fun c => ?_⟩
    · rwa [trunk.state, trunk.entries]
    · rw [trunk.state, (same.ctx c).state]
      exact hadmits c
  retry _ _ := trunk.retry rest.power

end Sys2Proof.Machine
end

section
/-!
SUPPORT. Claims that touch one circuit's call: which operations they are made of, and when they keep the laws.
-/

namespace Sys2Proof.Machine

/-- Sums over the circuits that differ in one circuit only. -/
theorem circuitSum_exchange {f g : CircuitId → Nat} {c : CircuitId} (h : ∀ d, d ≠ c → f d = g d) :
    circuitSum f + g c = circuitSum g + f c := by
  have hsum (e : CircuitId → Nat) : circuitSum e = ∑ d, e d := by
    simp [circuitSum, circuitIds, Fin.sum_univ_eight, add_assoc]
  have hsplit (e : CircuitId → Nat) : ∑ d, e d = e c + ∑ d ∈ Finset.univ.erase c, e d :=
    (Finset.add_sum_erase _ _ (Finset.mem_univ c)).symm
  have hrest : ∑ d ∈ Finset.univ.erase c, f d = ∑ d ∈ Finset.univ.erase c, g d :=
    Finset.sum_congr rfl fun d hd => h d (Finset.ne_of_mem_erase hd)
  rw [hsum, hsum, hsplit f, hsplit g, hrest]
  omega

/-- From `s` to `t` only circuit `c`'s call and cells change, and its cells change places only. -/
structure OnlyCircuit (c : CircuitId) (s t : State) : Prop where
  rest : SameRest s t
  trunk : SameTrunk s t
  ctx : ∀ d, d ≠ c → (s.ctx d).SameCall (t.ctx d)
  cells : ∀ d, d ≠ c → t.cells d = s.cells d
  balance : t.pool.free + t.cellsOf c = s.pool.free + s.cellsOf c

namespace OnlyCircuit

variable {c : CircuitId} {s t u : State}

theorem refl (c : CircuitId) (s : State) : OnlyCircuit c s s :=
  ⟨.refl s, .refl s, fun _ _ => .refl _, fun _ _ => rfl, rfl⟩

theorem trans (h : OnlyCircuit c s t) (k : OnlyCircuit c t u) : OnlyCircuit c s u :=
  ⟨h.rest.trans k.rest, h.trunk.trans k.trunk, fun d hd => (h.ctx d hd).trans (k.ctx d hd),
    fun d hd => (k.cells d hd).trans (h.cells d hd), k.balance.trans h.balance⟩

theorem of_same (rest : SameRest s t) (trunk : SameTrunk s t) (same : SameCalls s t) : OnlyCircuit c s t :=
  ⟨rest, trunk, fun d _ => same.ctx d, fun d _ => same.cells d, by rw [same.free, same.cellsOf]⟩

theorem cellsOf (h : OnlyCircuit c s t) {d : CircuitId} (hd : d ≠ c) : t.cellsOf d = s.cellsOf d := by
  simp only [State.cellsOf, h.cells d hd]

theorem pool (h : OnlyCircuit c s t) (law : PoolLaw s) : PoolLaw t := by
  refine law.of_eq ?_ (by rw [h.trunk.entries])
  have hsum := circuitSum_exchange (f := t.cellsOf) (g := s.cellsOf) fun d hd => h.cellsOf hd
  have hbalance := h.balance
  omega

theorem calls (h : OnlyCircuit c s t)
    (law : CircuitLaw (s.ctx c) (s.cells c) → CircuitLaw (t.ctx c) (t.cells c)) (all : CallLaw s) : CallLaw t := by
  intro d
  by_cases hd : d = c
  · rw [hd]
    exact law (all c)
  · rw [h.cells d hd]
    exact (all d).of_sameCall (h.ctx d hd)

/-- A claim on one circuit keeps the laws where its call keeps its own and the trunk admits its state. -/
theorem keeps (h : OnlyCircuit c s t)
    (law : CircuitLaw (s.ctx c) (s.cells c) → CircuitLaw (t.ctx c) (t.cells c))
    (nap : s.link.state.admits (s.ctx c).state = true → s.link.state.admits (t.ctx c).state = true) : Keeps s t where
  toQueuesKeep := h.rest.toQueuesKeep
  power := h.rest.power
  pending := h.rest.pending
  notices := h.rest.notices
  pool := h.pool
  calls := h.calls law
  nap hnap := by
    rw [napLaw_iff] at hnap ⊢
    obtain ⟨htimer, hstill, hadmits⟩ := hnap
    refine ⟨h.trunk.napTimer htimer, ?_, fun d => ?_⟩
    · rwa [h.trunk.state, h.trunk.entries]
    · rw [h.trunk.state]
      by_cases hd : d = c
      · rw [hd]
        exact nap (hadmits c)
      · rw [(h.ctx d hd).state]
        exact hadmits d
  retry _ _ := h.trunk.retry h.rest.power

end OnlyCircuit

/-! ## The operations such claims are made of -/

theorem State.setSlots_only (s : State) (c d : CircuitId) (l : Slots) : OnlyCircuit c s (s.setSlots d l) :=
  .of_same ⟨⟨rfl, rfl, id⟩, rfl, rfl, id⟩ ⟨rfl, rfl, rfl, rfl, rfl, rfl⟩ ⟨rfl, fun _ => rfl, fun _ => .refl _⟩

theorem State.report_only (s : State) (c : CircuitId) (p : Pair) : OnlyCircuit c s (s.report p) :=
  .of_same ⟨⟨rfl, rfl, id⟩, rfl, rfl, fun law => law.raising _⟩
    ⟨rfl, rfl, rfl, rfl, rfl, rfl⟩ ⟨rfl, fun _ => rfl, fun _ => .refl _⟩

theorem State.setCtx_only (s : State) (c : CircuitId) (x : Context) : OnlyCircuit c s (s.setCtx c x) where
  rest := ⟨⟨rfl, rfl, id⟩, rfl, rfl, id⟩
  trunk := ⟨rfl, rfl, rfl, rfl, rfl, rfl⟩
  ctx d hd := by simp [hd, Context.SameCall.refl]
  cells _ _ := rfl
  balance := rfl

/-- Cells of one circuit that change places, the free ones among them. -/
theorem State.setCells_only (s : State) (c : CircuitId) (y : Cells) (free lost : Nat)
    (h : free + (y.reserved + y.receiveQueue.length + y.sendQueue.length) = s.pool.free + s.cellsOf c) :
    OnlyCircuit c s (State.setCells { s with pool := { s.pool with free := free, lostCells := lost } } c y) where
  rest := ⟨⟨rfl, rfl, id⟩, rfl, rfl, id⟩
  trunk := ⟨rfl, rfl, rfl, rfl, rfl, rfl⟩
  ctx _ _ := .refl _
  cells d hd := by
    rw [State.cells_setCells, if_neg hd]
    rfl
  balance := by
    rw [← h, State.cellsOf, State.cells_setCells, if_pos rfl]
    rfl

theorem State.enter_only (s : State) (c : CircuitId) (st : CircuitState) (cause : CircuitCause) :
    OnlyCircuit c s (s.enter c st cause) := (s.setCtx_only c _).trans (State.report_only _ c _)

theorem State.placeRequest_only (s : State) (c : CircuitId) (w : RequestWord) (drain rouse : Bool) :
    OnlyCircuit c s (s.placeRequest c w drain rouse) := s.setSlots_only c c _

@[simp] theorem State.enter_ctx (s : State) (c d : CircuitId) (st : CircuitState) (cause : CircuitCause) :
    (s.enter c st cause).ctx d = if d = c then { s.ctx c with state := st, lastCause := some cause } else s.ctx d :=
  s.ctx_setCtx c d _

@[simp] theorem State.enter_cells (s : State) (c d : CircuitId) (st : CircuitState) (cause : CircuitCause) :
    (s.enter c st cause).cells d = s.cells d := rfl

@[simp] theorem State.placeRequest_ctx (s : State) (c d : CircuitId) (w : RequestWord) (drain rouse : Bool) :
    (s.placeRequest c w drain rouse).ctx d = s.ctx d := rfl

@[simp] theorem State.placeRequest_cells (s : State) (c d : CircuitId) (w : RequestWord) (drain rouse : Bool) :
    (s.placeRequest c w drain rouse).cells d = s.cells d := rfl

@[simp] theorem State.placeAnswer_ctx (s : State) (c d : CircuitId) (w : AnswerWord) (k : Byte) :
    (s.placeAnswer c w k).ctx d = s.ctx d := rfl

@[simp] theorem State.placeAnswer_cells (s : State) (c d : CircuitId) (w : AnswerWord) (k : Byte) :
    (s.placeAnswer c w k).cells d = s.cells d := rfl

/-! ## Cells that return to the pool, and close-down (R8, R52) -/

@[simp] theorem State.releaseCells_cells (s : State) (n : Nat) (d : CircuitId) :
    (s.releaseCells n).cells d = s.cells d := by
  unfold State.releaseCells
  split <;> rfl

@[simp] theorem State.releaseCells_free (s : State) (n : Nat) : (s.releaseCells n).pool.free = s.pool.free + n := by
  unfold State.releaseCells
  split
  · next h => rw [h, Nat.add_zero]
  · rfl

@[simp] theorem State.releaseCells_link (s : State) (n : Nat) : (s.releaseCells n).link = s.link := by
  unfold State.releaseCells
  split <;> rfl

@[simp] theorem State.releaseCells_retry (s : State) (n : Nat) : (s.releaseCells n).retry = s.retry := by
  unfold State.releaseCells
  split <;> rfl

theorem State.freeingEvent_sameCall (s : State) (d : CircuitId) : (s.ctx d).SameCall (s.freeingEvent.ctx d) := by
  rw [State.freeingEvent_ctx]
  exact ⟨rfl, rfl, rfl, rfl, rfl, rfl, rfl, rfl⟩

theorem State.releaseCells_sameCall (s : State) (n : Nat) (d : CircuitId) :
    (s.ctx d).SameCall ((s.releaseCells n).ctx d) := by
  unfold State.releaseCells
  split
  · exact .refl _
  · exact State.freeingEvent_sameCall { s with pool := { s.pool with free := s.pool.free + n } } d

theorem State.releaseCells_rest (s : State) (n : Nat) : SameRest s (s.releaseCells n) := by
  unfold State.releaseCells
  split
  · exact .refl s
  · exact ⟨⟨rfl, rfl, id⟩, rfl, rfl, fun law => law.raising _⟩

theorem State.releaseCells_trunk (s : State) (n : Nat) : SameTrunk s (s.releaseCells n) := by
  unfold State.releaseCells
  split
  · exact .refl s
  · exact ⟨rfl, rfl, rfl, rfl, rfl, rfl⟩

theorem State.returnCallCells_sameCall (s : State) (c d : CircuitId) :
    (s.ctx d).SameCall ((s.returnCallCells c).ctx d) := by
  rw [State.returnCallCells]
  refine .trans ?_ (State.releaseCells_sameCall _ _ d)
  exact .refl _

theorem State.returnCallCells_only (s : State) (c : CircuitId) : OnlyCircuit c s (s.returnCallCells c) where
  rest := by
    rw [State.returnCallCells]
    refine .trans ?_ (State.releaseCells_rest _ _)
    exact ⟨⟨rfl, rfl, id⟩, rfl, rfl, id⟩
  trunk := by
    rw [State.returnCallCells]
    refine .trans ?_ (State.releaseCells_trunk _ _)
    exact ⟨rfl, rfl, rfl, rfl, rfl, rfl⟩
  ctx d _ := s.returnCallCells_sameCall c d
  cells d hd := by
    rw [State.returnCallCells, State.releaseCells_cells]
    show (s.setCells c _).cells d = s.cells d
    rw [State.cells_setCells, if_neg hd]
  balance := by
    have hcells : (s.returnCallCells c).cells c = { s.cells c with sendQueue := [], reserved := 0 } := by
      rw [State.returnCallCells, State.releaseCells_cells]
      show (s.setCells c _).cells c = _
      rw [State.cells_setCells, if_pos rfl]
    rw [State.cellsOf, hcells, State.returnCallCells, State.releaseCells_free, State.cellsOf]
    show s.pool.free + _ + (0 + (s.cells c).receiveQueue.length + 0) = _
    omega

theorem State.closeDown_only (s : State) (c : CircuitId) (keepRole : Bool) :
    OnlyCircuit c s (s.closeDown c keepRole) :=
  ((s.returnCallCells_only c).trans (State.setSlots_only _ c c _)).trans (State.setCtx_only _ c _)

@[simp] theorem State.closeDown_cells (s : State) (c : CircuitId) (keepRole : Bool) :
    (s.closeDown c keepRole).cells c = { s.cells c with sendQueue := [], reserved := 0 } := by
  show (s.returnCallCells c).cells c = _
  rw [State.returnCallCells, State.releaseCells_cells]
  show (s.setCells c _).cells c = _
  rw [State.cells_setCells, if_pos rfl]

/-- A close-down clears fields of the call it ends and leaves the others. -/
theorem State.closeDown_ctx (s : State) (c : CircuitId) (keepRole : Bool) :
    ∃ x, (s.ctx c).SameCall x ∧ (s.closeDown c keepRole).ctx c = x.closed keepRole := by
  refine ⟨(s.returnCallCells c).ctx c, s.returnCallCells_sameCall c c, ?_⟩
  rw [State.closeDown, State.ctx_setCtx, if_pos rfl]
  rfl

@[simp] theorem State.closeDown_sendDepth (s : State) (c : CircuitId) (keepRole : Bool) :
    ((s.closeDown c keepRole).ctx c).sendDepth = (s.ctx c).sendDepth := by
  obtain ⟨x, hx, h⟩ := s.closeDown_ctx c keepRole
  rw [h, ← hx.sendDepth]
  rfl

@[simp] theorem State.closeDown_answerWindow (s : State) (c : CircuitId) (keepRole : Bool) :
    ((s.closeDown c keepRole).ctx c).answerWindow = (s.ctx c).answerWindow := by
  obtain ⟨x, hx, h⟩ := s.closeDown_ctx c keepRole
  rw [h, ← hx.answerWindow]
  rfl

@[simp] theorem State.closeDown_credit (s : State) (c : CircuitId) (keepRole : Bool) :
    ((s.closeDown c keepRole).ctx c).credit = (s.ctx c).credit := by
  obtain ⟨x, hx, h⟩ := s.closeDown_ctx c keepRole
  rw [h, Context.credit, Context.credit, ← hx.creditLimit, ← hx.sentCount]
  rfl

/-! ## The laws of a call that ends and of a call that is not live -/

theorem circuitLaw_of_not_live {x : Context} {y : Cells} (h : x.state.isLive = false) :
    CircuitLaw x y ↔
      (y.reserved = 0 ∧ y.sendQueue = []) ∧ 1 ≤ x.sendDepth ∧ x.sendDepth ≤ 32 ∧ y.receiveQueue.length ≤ 32
        ∧ x.credit.toNat ≤ 32 ∧ x.answerWindow ≤ 32 := by
  have hquiet : ¬ (x.state = .quieting ∨ x.state = .quiet) := by
    rintro (h' | h') <;> rw [h'] at h <;> exact absurd h (by decide)
  have hdialing : x.state ≠ .dialing := by
    intro h'
    rw [h'] at h
    exact absurd h (by decide)
  constructor
  · rintro ⟨-, hnone, -, -, hleast, hmost, -, hreceive, hcredit, hanswer⟩
    exact ⟨hnone h, hleast, hmost, hreceive, hcredit, hanswer⟩
  · rintro ⟨hnone, hleast, hmost, hreceive, hcredit, hanswer⟩
    refine ⟨fun hl => ?_, fun _ => hnone, fun hq => absurd hq hquiet, fun hd => absurd hd hdialing, hleast, hmost, ?_,
      hreceive, hcredit, hanswer⟩
    · rw [h] at hl
      cases hl
    · rw [hnone.2]
      exact Nat.zero_le _

/-- A call that has ended keeps the settings and the receive queue of its circuit. -/
theorem CircuitLaw.ended {x x' : Context} {y y' : Cells} (law : CircuitLaw x y) (hlive : x'.state.isLive = false)
    (hcells : y' = { y with sendQueue := [], reserved := 0 }) (hdepth : x'.sendDepth = x.sendDepth)
    (hanswer : x'.answerWindow = x.answerWindow) (hcredit : x'.credit.toNat ≤ 32) : CircuitLaw x' y' := by
  obtain ⟨-, -, -, -, hleast, hmost, -, hreceive, -, hwindow⟩ := law
  rw [circuitLaw_of_not_live hlive, hcells, hdepth, hanswer]
  exact ⟨⟨rfl, rfl⟩, hleast, hmost, hreceive, hcredit, hwindow⟩

theorem CircuitLaw.credit_le {x : Context} {y : Cells} (law : CircuitLaw x y) : x.credit.toNat ≤ 32 := by
  obtain ⟨-, -, -, -, -, -, -, -, hcredit, -⟩ := law
  exact hcredit

end Sys2Proof.Machine
end

section
/-!
SUPPORT. Changes of trunk state: what an entry to a state leaves for the laws, with the calls as they were, with one
circuit's change before it, with the waking circuits resolved, and after trunk loss.
-/

namespace Sys2Proof.Machine

/-! ## Entries -/

/-- From `s` to `t` the trunk has entered `st`; the calls aside, nothing else that the laws read has changed. -/
structure Entry (s t : State) (st : TrunkState) : Prop where
  rest : SameRest s t
  state : t.link.state = st
  timer : ∀ k, t.link.stateTimer = some k → timerState k.kind = st
  entries : t.retry.entries = s.retry.entries
  next : s.link.state = .training ∨ t.retry.nextSequence = s.retry.nextSequence
  pointer : (∀ i, s.retry.replayPointer = some i → i < s.retry.entries.length) →
    ∀ i, t.retry.replayPointer = some i → i < s.retry.entries.length
  replayTimer : t.retry.replayTimer.isSome = true ↔ st = .up ∧ s.retry.entries ≠ []

theorem NapLaw.entries_of_still {s : State} (law : NapLaw s) (h : s.link.state.isStill = true) :
    s.retry.entries = [] := by
  rw [napLaw_iff] at law
  obtain ⟨-, hstill, -⟩ := law
  exact hstill h

theorem RetryLaw.entries_of_not_live {s : State} (law : RetryLaw s) (hup : s.link.state ≠ .up)
    (hretune : s.link.state ≠ .retune) : s.retry.entries = [] := by
  obtain ⟨-, -, -, hplace, -⟩ := law
  exact (hplace.resolve_left hup).resolve_left hretune

/-- What admits the calls of `t` in the trunk state `st` and the Retry Queue of `s`. -/
def EntryAdmits (s t : State) (st : TrunkState) : Prop :=
  (st.isStill = true → s.retry.entries = []) ∧ ∀ c, st.admits (t.ctx c).state = true

theorem Entry.keeps_of {s t : State} {st : TrunkState} (h : Entry s t st) (pool : PoolLaw s → PoolLaw t)
    (calls : CallLaw s → CallLaw t) (nap : NapLaw s → EntryAdmits s t st)
    (retry : NapLaw s → RetryLaw s → st = .up ∨ st = .retune ∨ s.retry.entries = []) : Keeps s t where
  toQueuesKeep := h.rest.toQueuesKeep
  power := h.rest.power
  pending := h.rest.pending
  notices := h.rest.notices
  pool := pool
  calls := calls
  nap law := by
    obtain ⟨hstill, hadmits⟩ := nap law
    rw [napLaw_iff, h.state, h.entries]
    exact ⟨h.timer, hstill, hadmits⟩
  retry _ hnap law := by
    have hplace := retry hnap law
    have htraining (ht : s.link.state = .training) : s.retry.entries = [] :=
      law.entries_of_not_live (by rw [ht]; decide) (by rw [ht]; decide)
    obtain ⟨hlength, hnumbers, hpointer, -, -⟩ := law
    refine ⟨by rwa [h.entries], ?_, by rw [h.entries]; exact h.pointer hpointer, by rwa [h.state, h.entries],
      fun _ => by rw [h.state, h.entries]; exact h.replayTimer⟩
    rw [h.entries]
    obtain ht | hnext := h.next
    · rw [htraining ht]
      rfl
    · rwa [hnext]

/-- An entry that touches no call. -/
theorem Entry.keeps {s t : State} {st : TrunkState} (h : Entry s t st) (same : SameCalls s t)
    (nap : NapLaw s → EntryAdmits s s st)
    (retry : NapLaw s → RetryLaw s → st = .up ∨ st = .retune ∨ s.retry.entries = []) : Keeps s t := by
  refine h.keeps_of (PoolLaw.of_eq (by rw [same.free, same.cellsOf]) (by rw [h.entries])) same.calls
    (fun law => ?_) retry
  obtain ⟨hstill, hadmits⟩ := nap law
  exact ⟨hstill, fun c => by rw [(same.ctx c).state]; exact hadmits c⟩

theorem Entry.of_sameTrunk {s t u : State} {st : TrunkState} (rest : SameRest s t) (trunk : SameTrunk s t)
    (h : Entry t u st) : Entry s u st where
  rest := rest.trans h.rest
  state := h.state
  timer := h.timer
  entries := h.entries.trans trunk.entries
  next := by
    rw [← trunk.next, ← trunk.state]
    exact h.next
  pointer hp := by
    have := h.pointer
    rw [trunk.entries, trunk.pointer] at this
    exact this hp
  replayTimer := by rw [h.replayTimer, trunk.entries]

/-! ## Which states admit which -/

theorem mem_circuitIds (c : CircuitId) : c ∈ circuitIds := by
  fin_cases c <;> decide

/-- Where no circuit may wait for a rouse, none is WAKING. -/
theorem TrunkState.ne_waking_of_admits {u : TrunkState} {st : CircuitState} (hu : u.isNapping = false)
    (h : u.admits st = true) : st ≠ .waking := by
  rintro rfl
  cases u <;> simp_all [TrunkState.admits, TrunkState.isNapping, CircuitState.mayNap]

theorem TrunkState.admits_of_ne_waking {u : TrunkState} {st : CircuitState} (hu : u.isStill = false)
    (h : st ≠ .waking) : u.admits st = true := by
  cases u <;> simp_all [TrunkState.admits, TrunkState.isStill]

theorem TrunkState.admits_of_mayNap {u : TrunkState} {st : CircuitState} (h : st.mayNap = true) :
    u.admits st = true := by
  cases u <;> cases st <;> simp_all [TrunkState.admits, CircuitState.mayNap]

/-- From a trunk that does not nap, every state that needs no still trunk may be entered. -/
theorem entryAdmits_of_not_napping {s : State} {st : TrunkState} (hs : s.link.state.isNapping = false)
    (hst : st.isStill = false) (law : NapLaw s) : EntryAdmits s s st := by
  rw [napLaw_iff] at law
  obtain ⟨-, -, hadmits⟩ := law
  refine ⟨fun h => ?_, fun c => ?_⟩
  · rw [hst] at h
    cases h
  · exact TrunkState.admits_of_ne_waking hst (TrunkState.ne_waking_of_admits hs (hadmits c))

/-- With nothing outstanding and every circuit able to nap, every state may be entered. -/
theorem entryAdmits_of_mayNap {s t : State} {st : TrunkState} (hentries : s.retry.entries = [])
    (hcalls : ∀ c, (t.ctx c).state.mayNap = true) : EntryAdmits s t st :=
  ⟨fun _ => hentries, fun c => TrunkState.admits_of_mayNap (hcalls c)⟩

theorem State.mayNap_of_circuitsMayNap {s : State} (h : s.circuitsMayNap = true) (c : CircuitId) :
    (s.ctx c).state.mayNap = true := by
  rw [State.circuitsMayNap, List.all_eq_true] at h
  exact h c (mem_circuitIds c)

/-! ## The entries of the Link Controller -/

theorem State.changeTrunk_calls (s : State) (st : TrunkState) (cause : Option TrunkCause) :
    SameCalls s (s.changeTrunk st cause) := ⟨rfl, fun _ => rfl, fun _ => .refl _⟩

theorem State.changeTrunk_entry (s : State) {st : TrunkState} (cause : Option TrunkCause) (h : st ≠ .up) :
    Entry s (s.changeTrunk st cause) st where
  rest := ⟨⟨rfl, rfl, id⟩, rfl, rfl, fun law => law.raising _⟩
  state := rfl
  timer _ hk := nomatch hk
  entries := rfl
  next := .inr rfl
  pointer hp := hp
  replayTimer := ⟨fun ht => (nomatch ht), fun ht => absurd ht.1 h⟩

/-- What follows a change of trunk state in the same entry: it may start the new state's timer. -/
theorem Entry.followed {s u t : State} {st : TrunkState} (h : Entry s u st) (rest : SameRest u t)
    (state : t.link.state = u.link.state)
    (timer : t.link.stateTimer = u.link.stateTimer ∨ ∃ k, t.link.stateTimer = some k ∧ timerState k.kind = st)
    (retry : t.retry = u.retry) : Entry s t st where
  rest := h.rest.trans rest
  state := state.trans h.state
  timer k hk := by
    obtain heq | ⟨k', hk', hkind⟩ := timer
    · exact h.timer k (by rwa [← heq])
    · rw [hk'] at hk
      cases hk
      exact hkind
  entries := by rw [retry, h.entries]
  next := by rw [retry]; exact h.next
  pointer := by rw [retry]; exact h.pointer
  replayTimer := by rw [retry]; exact h.replayTimer

theorem State.enterUp_calls (s : State) (cause : Option TrunkCause) : SameCalls s (s.enterUp cause) :=
  ⟨rfl, fun _ => rfl, fun _ => .refl _⟩

theorem State.enterUp_entry (s : State) (cause : Option TrunkCause) : Entry s (s.enterUp cause) .up where
  rest := ⟨⟨rfl, rfl, id⟩, rfl, rfl, fun law => law.raising _⟩
  state := rfl
  timer _ hk := nomatch hk
  entries := rfl
  next := .inr rfl
  pointer hp := hp
  replayTimer := by
    show (if s.retry.entries.isEmpty then none else some s.port.parameters.ackTimeout).isSome = true ↔ _
    cases s.retry.entries <;> simp

/-- An entry to UP whose queue is replayed from its head, or numbered anew where it is empty. -/
theorem Entry.renumbered {s u t : State} (h : Entry s u .up) (rest : SameRest u t) (link : t.link.state = u.link.state)
    (timer : t.link.stateTimer = u.link.stateTimer) (entries : t.retry.entries = u.retry.entries)
    (next : s.link.state = .training ∨ t.retry.nextSequence = u.retry.nextSequence)
    (pointer : t.retry.replayPointer = u.retry.replayPointer
      ∨ t.retry.replayPointer = if u.retry.entries.isEmpty then none else some 0)
    (replayTimer : t.retry.replayTimer = u.retry.replayTimer) : Entry s t .up where
  rest := h.rest.trans rest
  state := link.trans h.state
  timer := by rw [timer]; exact h.timer
  entries := entries.trans h.entries
  next := by
    obtain ht | hnext := next
    · exact .inl ht
    · exact h.next.imp id hnext.trans
  pointer hp i hi := by
    obtain heq | heq := pointer
    · exact h.pointer hp i (by rwa [← heq])
    · rw [heq, h.entries] at hi
      cases hentries : s.retry.entries with
      | nil => simp [hentries] at hi
      | cons e rest =>
        simp only [hentries, List.isEmpty_cons, Bool.false_eq_true, if_false, Option.some.injEq] at hi
        rw [← hi]
        exact Nat.succ_pos _
  replayTimer := by rw [replayTimer]; exact h.replayTimer

/-! ## Entries that touch no call -/

theorem State.enterUp_keeps {s : State} (h : s.link.state.isNapping = false) (cause : Option TrunkCause) :
    Keeps s (s.enterUp cause) :=
  (s.enterUp_entry cause).keeps (s.enterUp_calls cause) (entryAdmits_of_not_napping h rfl) fun _ _ => .inl rfl

theorem State.finishTraining_keeps {s : State} (h : s.link.state = .training) : Keeps s s.finishTraining := by
  refine Keeps.ite (fun _ => ?_) fun _ => .refl s
  have hentry : Entry s s.enterUpFromTraining .up :=
    (s.enterUp_entry s.link.cause).renumbered ⟨⟨rfl, rfl, id⟩, rfl, rfl, id⟩ rfl rfl rfl (.inl h) (.inl rfl) rfl
  exact hentry.keeps ⟨rfl, fun _ => rfl, fun _ => .refl _⟩ (entryAdmits_of_not_napping (by rw [h]; rfl) rfl)
    fun _ _ => .inl rfl

theorem State.returnFromRetune_keeps {s : State} (h : s.link.state = .retune) : Keeps s s.returnFromRetune := by
  have hentry : Entry s s.returnFromRetune .up :=
    (s.enterUp_entry s.link.cause).renumbered ⟨⟨rfl, rfl, id⟩, rfl, rfl, id⟩ rfl rfl rfl (.inr rfl) (.inr rfl) rfl
  exact hentry.keeps ⟨rfl, fun _ => rfl, fun _ => .refl _⟩ (entryAdmits_of_not_napping (by rw [h]; rfl) rfl)
    fun _ _ => .inl rfl

/-- An entry from a state that neither naps nor is live to a state that needs no still trunk. -/
theorem Entry.keeps_of_not_live {s t : State} {st : TrunkState} (h : Entry s t st) (same : SameCalls s t)
    (hst : st.isStill = false)
    (hs : s.link.state = .down ∨ s.link.state = .training ∨ s.link.state = .closing ∨ s.link.state = .fault) :
    Keeps s t := by
  refine h.keeps same (entryAdmits_of_not_napping ?_ hst) fun _ law => .inr (.inr (law.entries_of_not_live ?_ ?_)) <;>
    obtain hs | hs | hs | hs := hs <;> rw [hs] <;> decide

theorem State.enterDown_keeps {s : State} (cause : TrunkCause)
    (hs : s.link.state = .down ∨ s.link.state = .training ∨ s.link.state = .closing ∨ s.link.state = .fault) :
    Keeps s (s.enterDown cause) :=
  (s.changeTrunk_entry (some cause) (by decide)).keeps_of_not_live (s.changeTrunk_calls _ _) rfl hs

theorem State.enterTraining_keeps {s : State} (cause : TrunkCause) (heard : Bool)
    (hs : s.link.state = .down ∨ s.link.state = .fault) : Keeps s (s.enterTraining cause heard) := by
  have hentry : Entry s (s.enterTraining cause heard) .training :=
    (s.changeTrunk_entry (some cause) (by decide)).followed ⟨⟨rfl, rfl, id⟩, rfl, rfl, id⟩ rfl (.inr ⟨_, rfl, rfl⟩) rfl
  refine hentry.keeps_of_not_live ⟨rfl, fun _ => rfl, fun _ => .refl _⟩ rfl ?_
  obtain hs | hs := hs
  · exact .inl hs
  · exact .inr (.inr (.inr hs))

theorem State.enterNapAsking_keeps {s : State} (hcalls : s.circuitsMayNap = true)
    (hentries : s.retry.entries = []) : Keeps s s.enterNapAsking := by
  have hentry : Entry s s.enterNapAsking .napAsking :=
    (s.changeTrunk_entry _ (by decide)).followed ⟨⟨rfl, rfl, id⟩, rfl, rfl, id⟩ rfl (.inr ⟨_, rfl, rfl⟩) rfl
  exact hentry.keeps ⟨rfl, fun _ => rfl, fun _ => .refl _⟩
    (fun _ => entryAdmits_of_mayNap hentries (State.mayNap_of_circuitsMayNap hcalls)) fun _ _ => .inr (.inr hentries)

theorem State.enterNap_keeps_of_asking {s : State} (h : s.link.state = .napAsking) (cause : Option TrunkCause) :
    Keeps s (s.enterNap cause) := by
  have hentries (law : NapLaw s) : s.retry.entries = [] := law.entries_of_still (by rw [h]; rfl)
  refine (s.changeTrunk_entry cause (by decide)).keeps (s.changeTrunk_calls _ _) (fun law => ?_) fun law _ =>
    .inr (.inr (hentries law))
  have hadmits := ((napLaw_iff s).mp law).2.2
  simp only [h] at hadmits
  exact entryAdmits_of_mayNap (hentries law) hadmits

theorem State.enterNap_keeps_of_test {s : State} (h : s.napTest = true) (cause : Option TrunkCause) :
    Keeps s (s.enterNap cause) := by
  simp only [State.napTest, Bool.and_eq_true, List.isEmpty_iff] at h
  obtain ⟨⟨hcalls, -⟩, hentries⟩ := h
  exact (s.changeTrunk_entry cause (by decide)).keeps (s.changeTrunk_calls _ _)
    (fun _ => entryAdmits_of_mayNap hentries (State.mayNap_of_circuitsMayNap hcalls)) fun _ _ => .inr (.inr hentries)

theorem State.startRouse_entry (s : State) : Entry s s.startRouse .rousing :=
  (s.changeTrunk_entry _ (by decide)).followed ⟨⟨rfl, rfl, id⟩, rfl, rfl, id⟩ rfl (.inr ⟨_, rfl, rfl⟩) rfl

theorem State.startRouse_keeps {s : State} (h : s.link.state = .nap) : Keeps s s.startRouse := by
  have hentries (law : NapLaw s) : s.retry.entries = [] := law.entries_of_still (by rw [h]; rfl)
  refine s.startRouse_entry.keeps ⟨rfl, fun _ => rfl, fun _ => .refl _⟩ (fun law => ⟨fun _ => hentries law, ?_⟩)
    fun law _ => .inr (.inr (hentries law))
  have hadmits := ((napLaw_iff s).mp law).2.2
  rwa [h] at hadmits

/-! ## An entry to UP that one circuit's claim brings (R149) -/

/-- A claim on one circuit that abandons a nap ask keeps the laws where its call keeps its own and does not wait for a
rouse. -/
theorem OnlyCircuit.keeps_abandon {c : CircuitId} {s t : State} (h : OnlyCircuit c s t)
    (law : CircuitLaw (s.ctx c) (s.cells c) → CircuitLaw (t.ctx c) (t.cells c)) (awake : (t.ctx c).state ≠ .waking)
    (nap : s.link.state.isNapping = false) (cause : TrunkCause) : Keeps s (t.abandonNapAsk cause) := by
  unfold State.abandonNapAsk
  split
  · next hasking =>
    have hentry := (t.enterUp_entry (some cause)).of_sameTrunk h.rest h.trunk
    refine hentry.keeps_of h.pool (h.calls law) (fun hnap => ⟨fun hstill => (nomatch hstill), fun d => ?_⟩)
      fun _ _ => .inl rfl
    apply TrunkState.admits_of_ne_waking rfl
    show (t.ctx d).state ≠ .waking
    by_cases hd : d = c
    · rwa [hd]
    · rw [(h.ctx d hd).state]
      exact TrunkState.ne_waking_of_admits nap (((napLaw_iff s).mp hnap).2.2 d)
  · next hasking =>
    refine h.keeps law fun _ => TrunkState.admits_of_ne_waking ?_ awake
    rw [h.trunk.state] at hasking
    cases hs : s.link.state <;> simp_all [TrunkState.isNapping, TrunkState.isStill]

/-! ## The change from NAP or ROUSING, with the waking circuits resolved (R47, R154) -/

theorem Context.resolved_ne_waking (x : Context) (l : Slots) : (x.resolved l).state ≠ .waking := by
  unfold Context.resolved
  split
  · cases l.releaseHeld <;> simp
  · next h =>
    intro hx
    simp [Context.awaitsRouse, hx] at h

/-- A circuit that waits for the rouse has a live call, and has one after it. -/
theorem CircuitLaw.resolved {x : Context} {y : Cells} (law : CircuitLaw x y) (l : Slots) :
    CircuitLaw (x.resolved l) y := by
  unfold Context.resolved
  split
  · next h =>
    have hlive : x.state.isLive = true := by
      simp only [Context.awaitsRouse, Bool.or_eq_true, Bool.and_eq_true, beq_iff_eq] at h
      obtain h | ⟨h, -⟩ := h <;> rw [h] <;> rfl
    obtain ⟨hcall, -, -, -, hrest⟩ := law
    refine ⟨fun _ => hcall hlive, ?_, ?_, ?_, hrest⟩ <;> cases l.releaseHeld <;> simp [CircuitState.isLive]
  · exact law

theorem State.resolveWaking_ctx (s : State) (c : CircuitId) :
    s.resolveWaking.ctx c = (s.ctx c).resolved (s.slots c) := PerCircuit.get_ofFn _ c

/-- An entry to UP or RETUNE that touches no call and then resolves the waking circuits. -/
theorem Entry.resolved_keeps {s u : State} {st : TrunkState} (h : Entry s u st) (same : SameCalls s u)
    (hst : st = .up ∨ st = .retune) : Keeps s u.resolveWaking := by
  have hentry : Entry s u.resolveWaking st :=
    h.followed ⟨⟨rfl, rfl, id⟩, rfl, rfl, fun law => law.raising _⟩ rfl (.inl rfl)
      rfl
  refine hentry.keeps_of (fun law => law.of_eq ?_ (by rw [hentry.entries])) (fun law c => ?_)
    (fun _ => ⟨fun hstill => ?_, fun c => ?_⟩) fun _ _ => ?_
  · show u.pool.free + circuitSum u.cellsOf = _
    rw [same.free, same.cellsOf]
  · rw [State.resolveWaking_ctx]
    exact (same.calls law c).resolved _
  · obtain rfl | rfl := hst <;> cases hstill
  · rw [State.resolveWaking_ctx]
    refine TrunkState.admits_of_ne_waking ?_ (Context.resolved_ne_waking _ _)
    obtain rfl | rfl := hst <;> rfl
  · exact hst.elim .inl fun hst => .inr (.inl hst)

theorem State.rouseToUp_keeps (s : State) (cause : Option TrunkCause) : Keeps s (s.rouseToUp cause) :=
  (s.enterUp_entry cause).resolved_keeps (s.enterUp_calls cause) (.inl rfl)

/-! ## Trunk loss (R139) and the entries that begin with it -/

/-- The Retry Queue is empty and no call is left, as after trunk loss. -/
structure Cleared (s : State) : Prop where
  entries : s.retry.entries = []
  calls : ∀ c, (s.ctx c).state.mayNap = true

theorem Entry.keeps_of_cleared {s t : State} {st : TrunkState} (h : Entry s t st) (same : SameCalls s t)
    (cleared : Cleared s) : Keeps s t :=
  h.keeps same (fun _ => entryAdmits_of_mayNap cleared.entries cleared.calls) fun _ _ => .inr (.inr cleared.entries)

/-- What trunk loss leaves before its cells return to the pool. -/
def State.lossTaken (s : State) (cause : CircuitCause) : State :=
  let s := s.loseCircuits cause
  { s with
    retry := { s.retry with entries := [], replayPointer := none, replayTimer := none, replayCounter := 0 }
    checker :=
      { s.checker with nakOutstanding := false, errorWindow := none, errorCounter := 0, thresholdReported := false }
    transmit := { s.transmit with slots := .all .empty, ackNak := none, linkSlot := .empty }
    link :=
      { s.link with
        retuneCounter := 0, tuneHeard := false, tuneOkReceived := false, tuneOkSent := false, echo := false
        repeatTimer := none } }

theorem State.trunkLoss_eq (s : State) (cause : CircuitCause) :
    s.trunkLoss cause
      = (s.lossTaken cause).releaseCells (circuitSum s.cellsLost + dataCells s.retry.entries) := rfl

theorem State.lossTaken_ctx (s : State) (cause : CircuitCause) (c : CircuitId) :
    (s.lossTaken cause).ctx c = (s.ctx c).lost cause := PerCircuit.get_ofFn _ c

theorem State.lossTaken_cells (s : State) (cause : CircuitCause) (c : CircuitId) :
    (s.lossTaken cause).cells c = (s.cells c).lost (s.ctx c) := PerCircuit.get_ofFn _ c

theorem Context.lost_mayNap (x : Context) (cause : CircuitCause) : (x.lost cause).state.mayNap = true := by
  unfold Context.lost
  cases hx : x.state <;> simp [CircuitState.endsAtLoss, CircuitState.hasCurrentCall, CircuitState.mayNap, hx]

theorem CircuitLaw.lost {x : Context} {y : Cells} (law : CircuitLaw x y) (cause : CircuitCause) :
    CircuitLaw (x.lost cause) (y.lost x) := by
  unfold Context.lost Cells.lost
  split
  · exact law.ended rfl rfl rfl rfl law.credit_le
  · exact law

/-- The cells a circuit loses are those it no longer has. -/
theorem State.lossTaken_cellsOf (s : State) (cause : CircuitCause) (c : CircuitId) :
    (s.lossTaken cause).cellsOf c + s.cellsLost c = s.cellsOf c := by
  rw [State.cellsOf, State.lossTaken_cells, State.cellsOf, State.cellsLost, Cells.lost]
  split
  · show 0 + (s.cells c).receiveQueue.length + 0 + _ = _
    omega
  · omega

theorem circuitSum_add (f g : CircuitId → Nat) : circuitSum f + circuitSum g = circuitSum fun c => f c + g c := by
  simp only [circuitSum, circuitIds, List.map_cons, List.map_nil, List.sum_cons, List.sum_nil]
  omega

theorem State.trunkLoss_cleared (s : State) (cause : CircuitCause) : Cleared (s.trunkLoss cause) where
  entries := by rw [State.trunkLoss_eq, State.releaseCells_retry]; rfl
  calls c := by
    rw [State.trunkLoss_eq, (State.releaseCells_sameCall _ _ c).state, State.lossTaken_ctx]
    exact Context.lost_mayNap _ _

theorem State.trunkLoss_keeps (s : State) (cause : CircuitCause) : Keeps s (s.trunkLoss cause) where
  toQueuesKeep := ⟨congrArg (·.intake) (s.trunkLoss_same cause).port,
    congrArg (·.replies) (s.trunkLoss_same cause).port,
    by rw [(s.trunkLoss_same cause).port]; exact id⟩
  power := (s.trunkLoss_same cause).power
  pending := (s.trunkLoss_same cause).pending
  notices law := by
    rw [State.trunkLoss_eq]
    exact (State.releaseCells_rest _ _).notices (law.raising _)
  pool law := by
    have hcells : circuitSum s.cellsOf = circuitSum (s.trunkLoss cause).cellsOf + circuitSum s.cellsLost := by
      rw [circuitSum_add]
      congr 1
      funext c
      rw [← s.lossTaken_cellsOf cause c, State.cellsOf, State.cellsOf, State.trunkLoss_eq, State.releaseCells_cells]
    unfold PoolLaw at *
    rw [(s.trunkLoss_cleared cause).entries, State.trunkLoss_eq, State.releaseCells_free, ← State.trunkLoss_eq]
    show s.pool.free + _ + _ + 0 = 256
    omega
  calls law c := by
    rw [State.trunkLoss_eq, State.releaseCells_cells, State.lossTaken_cells]
    refine CircuitLaw.of_sameCall (State.releaseCells_sameCall _ _ c) ?_
    rw [State.lossTaken_ctx]
    exact (law c).lost cause
  nap law := by
    rw [napLaw_iff] at law ⊢
    have hlink : (s.trunkLoss cause).link.state = s.link.state
        ∧ (s.trunkLoss cause).link.stateTimer = s.link.stateTimer := by
      rw [State.trunkLoss_eq, State.releaseCells_link]
      exact ⟨rfl, rfl⟩
    rw [hlink.1, hlink.2]
    exact ⟨law.1, fun _ => (s.trunkLoss_cleared cause).entries,
      fun c => TrunkState.admits_of_mayNap ((s.trunkLoss_cleared cause).calls c)⟩
  retry _ _ _ := by
    have hretry : (s.trunkLoss cause).retry
        = { s.retry with entries := [], replayPointer := none, replayTimer := none, replayCounter := 0 } := by
      rw [State.trunkLoss_eq, State.releaseCells_retry]
      rfl
    unfold RetryLaw
    rw [hretry]
    exact ⟨Nat.zero_le _, rfl, fun i hi => (nomatch hi), .inr (.inr rfl),
      fun _ => ⟨fun ht => (nomatch ht), fun ht => absurd rfl ht.2⟩⟩

/-- The entry to FAULT once trunk loss has been taken (R136). -/
def State.faulting (s : State) (cause : TrunkCause) : State :=
  let s := s.changeTrunk .fault (some cause)
  let s := s.stand (.fault (trunkCauseCode cause))
  let s := s.startTimer .faultHold s.port.parameters.faultHold
  { s with link := { s.link with faults := addToCounter s.link.faults 1 } }

theorem State.enterFault_eq (s : State) (cause : TrunkCause) :
    s.enterFault cause
      = if s.link.state = .down ∨ s.link.state = .fault then s.faulting cause
        else (s.trunkLoss .trunkLost).faulting cause := by
  unfold State.enterFault
  split <;> rfl

theorem State.faulting_entry (s : State) (cause : TrunkCause) : Entry s (s.faulting cause) .fault :=
  (s.changeTrunk_entry _ (by decide)).followed ⟨⟨rfl, rfl, id⟩, rfl, rfl, id⟩ rfl (.inr ⟨_, rfl, rfl⟩) rfl

theorem State.faulting_calls (s : State) (cause : TrunkCause) : SameCalls s (s.faulting cause) :=
  ⟨rfl, fun _ => rfl, fun _ => .refl _⟩

theorem State.enterFault_keeps (s : State) (cause : TrunkCause) : Keeps s (s.enterFault cause) := by
  rw [State.enterFault_eq]
  refine Keeps.ite (fun h => ?_) fun _ => ?_
  · refine (s.faulting_entry cause).keeps_of_not_live (s.faulting_calls cause) rfl ?_
    obtain h | h := h
    · exact .inl h
    · exact .inr (.inr (.inr h))
  · exact (s.trunkLoss_keeps _).trans
      ((State.faulting_entry _ cause).keeps_of_cleared (State.faulting_calls _ cause) (s.trunkLoss_cleared _))

/-- The entry to CLOSING once trunk loss has been taken (R134). -/
def State.closing (s : State) : State :=
  let s := s.changeTrunk .closing (some .host)
  let s := s.stand .down
  s.startTimer .close s.port.parameters.closeTimeout

theorem State.enterClosing_eq (s : State) : s.enterClosing = (s.trunkLoss .trunkClosed).closing := rfl

theorem State.closing_entry (s : State) : Entry s s.closing .closing :=
  (s.changeTrunk_entry _ (by decide)).followed ⟨⟨rfl, rfl, id⟩, rfl, rfl, id⟩ rfl (.inr ⟨_, rfl, rfl⟩) rfl

theorem State.closing_calls (s : State) : SameCalls s s.closing := ⟨rfl, fun _ => rfl, fun _ => .refl _⟩

theorem State.enterClosing_keeps (s : State) : Keeps s s.enterClosing := by
  rw [State.enterClosing_eq]
  exact (s.trunkLoss_keeps _).trans
    ((State.closing_entry _).keeps_of_cleared (State.closing_calls _) (s.trunkLoss_cleared _))

theorem State.answerLink_same (s : State) (x : LinkSignal) : Keeps s (s.answerLink x) :=
  .of_same ⟨⟨rfl, rfl, id⟩, rfl, rfl, id⟩ ⟨rfl, rfl, rfl, rfl, rfl, rfl⟩ ⟨rfl, fun _ => rfl, fun _ => .refl _⟩

theorem State.closedDown_keeps {u : State} (h : Cleared u) : Keeps u ((u.answerLink .downOk).enterDown .peer) :=
  (u.answerLink_same .downOk).trans
    ((State.changeTrunk_entry _ _ (by decide)).keeps_of_cleared (State.changeTrunk_calls _ _ _) ⟨h.entries, h.calls⟩)

theorem State.closedByPeer_keeps (s : State) : Keeps s s.closedByPeer :=
  (s.trunkLoss_keeps .trunkClosed).trans (State.closedDown_keeps (s.trunkLoss_cleared _))

/-! ## Retune (R127) -/

theorem State.retuning_entry (s : State) (cause : TrunkCause) (heard : Bool) :
    Entry s (s.retuning cause heard) .retune :=
  (s.changeTrunk_entry _ (by decide)).followed
    ⟨⟨rfl, rfl, id⟩, rfl, rfl, fun law => law.raising _⟩ rfl (.inr ⟨_, rfl, rfl⟩)
    rfl

theorem State.enterRetune_keeps {s : State} (h : NapLaw s → s.link.state ≠ .nap) (cause : TrunkCause) (heard : Bool) :
    Keeps s (s.enterRetune cause heard) := by
  have same : SameCalls s (s.retuning cause heard) := ⟨rfl, fun _ => rfl, fun _ => .refl _⟩
  rw [State.enterRetune_eq]
  refine Keeps.ite (fun _ => ?_) fun hrousing => ?_
  · exact (s.retuning_entry cause heard).resolved_keeps same (.inr rfl)
  · refine (s.retuning_entry cause heard).keeps same (fun law => entryAdmits_of_not_napping ?_ rfl law) fun _ _ =>
      .inr (.inl rfl)
    have hnap := h law
    cases hs : s.link.state <;> simp_all [TrunkState.isNapping]

theorem State.retuneCause_keeps {s : State} (h : NapLaw s → s.link.state ≠ .nap) (cause : TrunkCause) (heard : Bool) :
    Keeps s (s.retuneCause cause heard) := by
  unfold State.retuneCause
  extract_lets l u
  have hcount : Keeps s u :=
    .of_same ⟨⟨rfl, rfl, id⟩, rfl, rfl, id⟩ ⟨rfl, rfl, rfl, rfl, rfl, rfl⟩ ⟨rfl, fun _ => rfl, fun _ => .refl _⟩
  exact hcount.trans (Keeps.ite (fun _ => u.enterFault_keeps _) fun _ => State.enterRetune_keeps (s := u) h _ _)

end Sys2Proof.Machine
end

section
/-!
SUPPORT. The Notice Unit: what its operations leave of the laws of its queue (chapter Notices).
-/

namespace Sys2Proof.Machine

namespace NoticeUnit

variable {n : NoticeUnit} {p q : Pair}

/-! ## Records and entries -/

theorem record_setRecord_ite (n : NoticeUnit) (p q : Pair) (r : NoticeRecord) :
    (n.setRecord p r).record q = if q = p then r else n.record q := by
  by_cases h : q = p
  · rw [h, record_setRecord, if_pos rfl]
  · rw [record_setRecord_of_ne n h, if_neg h]

theorem record_enqueue (n : NoticeUnit) (p q : Pair) :
    (n.enqueue p).record q = if q = p then { n.record p with queued := true } else n.record q :=
  n.record_setRecord_ite p q _

theorem record_count (n : NoticeUnit) (p q : Pair) :
    (n.count p).record q =
      if q = p then { n.record p with latch := true, unreported := min ((n.record p).unreported + 1) 255 }
      else n.record q :=
  n.record_setRecord_ite p q _

theorem hasRoom_iff (n : NoticeUnit) : n.hasRoom = true ↔ n.queue.length < 16 := decide_eq_true_iff

theorem Sound.full_of_no_room (h : n.Sound) (hroom : n.hasRoom = false) : n.queue.length = 16 := by
  have hlength := h.length
  rw [← Bool.not_eq_true, hasRoom_iff] at hroom
  omega

/-- Records that change neither what is queued nor what is counted keep the queue sound. -/
theorem Sound.setRecord (h : n.Sound) {r : NoticeRecord} (hqueued : r.queued = (n.record p).queued)
    (hcounted : (n.record p).unreported ≤ r.unreported) (hbounded : r.unreported ≤ 255) :
    (n.setRecord p r).Sound where
  length := h.length
  nodup := h.nodup
  queued q := by
    rw [record_setRecord_ite]
    split
    · next hq => rw [hqueued, h.queued, hq]; rfl
    · exact h.queued q
  counted q hq := by
    rw [record_setRecord_ite]
    split
    · next hqp => exact (h.counted p (hqp ▸ hq)).trans hcounted
    · exact h.counted q hq
  bounded q := by
    rw [record_setRecord_ite]
    split
    · exact hbounded
    · exact h.bounded q
  attn := h.attn

theorem Sound.enqueue (h : n.Sound) (hroom : n.hasRoom = true) (hqueued : (n.record p).queued = false)
    (hcounted : 0 < (n.record p).unreported) : (n.enqueue p).Sound := by
  have hnot : p ∉ n.queue := by
    rw [← h.queued, hqueued]
    exact Bool.false_ne_true
  have hmem (q : Pair) : q ∈ (n.enqueue p).queue ↔ q ∈ n.queue ∨ q = p := List.mem_append.trans
    (or_congr_right List.mem_singleton)
  refine ⟨?_, ?_, fun q => ?_, fun q hq => ?_, fun q => ?_, ?_⟩
  · rw [hasRoom_iff] at hroom
    show (n.queue ++ [p]).length ≤ 16
    rw [List.length_append, List.length_singleton]
    omega
  · show (n.queue ++ [p]).Nodup
    exact List.nodup_append.mpr ⟨h.nodup, List.nodup_singleton p, fun a ha b hb hab => hnot (by simp_all)⟩
  · rw [record_enqueue, hmem]
    split
    · next hq => simp [hq]
    · next hq => rw [h.queued q, or_iff_left hq]
  · rw [record_enqueue]
    split
    · exact hcounted
    · next hqp => exact h.counted q (((hmem q).mp hq).resolve_right hqp)
  · rw [record_enqueue]
    split
    · exact h.bounded p
    · exact h.bounded q
  · show (!(n.queue ++ [p]).isEmpty) = !(n.queue ++ [p]).isEmpty
    rfl

theorem served_enqueue_self (n : NoticeUnit) (p : Pair) : (n.enqueue p).Served p := fun _ _ =>
  .inl (List.mem_append.mpr (.inr (List.mem_singleton.mpr rfl)))

theorem Served.enqueue (h : n.Served q) (hroom : n.hasRoom = true) : (n.enqueue p).Served q := by
  intro hmask hcounted
  by_cases hq : q = p
  · exact hq ▸ served_enqueue_self n p (hq ▸ hmask) (hq ▸ hcounted)
  · rw [record_enqueue, if_neg hq] at hmask hcounted
    obtain hmem | hfull := h hmask hcounted
    · exact .inl (List.mem_append.mpr (.inl hmem))
    · rw [hasRoom_iff] at hroom
      omega

/-! ## Occurrences (R159, R161) -/

theorem Lawful.occurrence (law : n.Lawful) (p : Pair) : (n.occurrence p).Lawful := by
  have hcount : (n.count p).Sound :=
    law.sound.setRecord rfl (Nat.le_min.mpr ⟨Nat.le_succ _, law.sound.bounded p⟩) (Nat.min_le_right _ _)
  have hself : (n.count p).record p
      = { n.record p with latch := true, unreported := min ((n.record p).unreported + 1) 255 } := by
    rw [record_count, if_pos rfl]
  have hothers (q : Pair) (hq : q ≠ p) : (n.count p).Served q := by
    unfold Served
    rw [record_count, if_neg hq]
    exact law.served q
  unfold NoticeUnit.occurrence
  split
  · next h =>
    simp only [makesEntry, Bool.and_eq_true, Bool.not_eq_true'] at h
    obtain ⟨⟨-, hqueued⟩, hroom⟩ := h
    refine ⟨hcount.enqueue hroom (by rw [hself]; exact hqueued) (by rw [hself]; simp), fun q => ?_⟩
    by_cases hq : q = p
    · exact hq ▸ served_enqueue_self _ _
    · exact (hothers q hq).enqueue hroom
  · next h =>
    refine ⟨hcount, fun q => ?_⟩
    by_cases hq : q = p
    · subst hq
      intro hmask _
      rw [hself] at hmask
      cases hqueued : (n.record q).queued with
      | true => exact .inl ((law.sound.queued q).mp hqueued)
      | false =>
        cases hroom : n.hasRoom with
        | true => simp_all [makesEntry]
        | false => exact .inr (law.sound.full_of_no_room hroom)
    · exact hothers q hq

theorem Lawful.takeRaised (law : n.Lawful) : n.takeRaised.Lawful := by
  have hfold (l : List Pair) (m : NoticeUnit) (hm : m.Lawful) : (l.foldl NoticeUnit.occurrence m).Lawful := by
    induction l generalizing m with
    | nil => exact hm
    | cons p l ih => exact ih _ (hm.occurrence p)
  exact hfold _ _ (law.raising [])

theorem raised_occurrence (n : NoticeUnit) (p : Pair) : (n.occurrence p).raised = n.raised := by
  unfold NoticeUnit.occurrence
  split <;> rfl

/-- Every occurrence of the claim is taken. -/
theorem takeRaised_raised (n : NoticeUnit) : n.takeRaised.raised = [] := by
  have hfold (l : List Pair) (m : NoticeUnit) : (l.foldl NoticeUnit.occurrence m).raised = m.raised := by
    induction l generalizing m with
    | nil => rfl
    | cons p l ih => rw [List.foldl_cons, ih, raised_occurrence]
  exact hfold _ _

/-! ## The refill scan (R167) -/

theorem visit_of_waiting (h : n.waiting p = true ∧ n.hasRoom = true) : n.visit p = n.enqueue p :=
  if_pos (by rw [h.1, h.2]; rfl)

theorem visit_of_not_waiting (h : ¬ (n.waiting p = true ∧ n.hasRoom = true)) : n.visit p = n :=
  if_neg (by rwa [Bool.and_eq_true])

theorem waiting_iff (n : NoticeUnit) (p : Pair) :
    n.waiting p = true ↔ (n.record p).mask = false ∧ 0 < (n.record p).unreported ∧ (n.record p).queued = false := by
  simp [waiting, and_assoc]

theorem Sound.visit (h : n.Sound) (p : Pair) : (n.visit p).Sound := by
  by_cases hv : n.waiting p = true ∧ n.hasRoom = true
  · obtain ⟨-, hcounted, hqueued⟩ := (waiting_iff n p).mp hv.1
    rw [visit_of_waiting hv]
    exact h.enqueue hv.2 hqueued hcounted
  · rwa [visit_of_not_waiting hv]

theorem Sound.served_visit (h : n.Sound) (p : Pair) : (n.visit p).Served p := by
  by_cases hv : n.waiting p = true ∧ n.hasRoom = true
  · rw [visit_of_waiting hv]
    exact served_enqueue_self n p
  · rw [visit_of_not_waiting hv]
    intro hmask hcounted
    cases hqueued : (n.record p).queued with
    | true => exact .inl ((h.queued p).mp hqueued)
    | false =>
      refine .inr (h.full_of_no_room ?_)
      rw [waiting_iff, not_and, Bool.not_eq_true] at hv
      exact hv ⟨hmask, hcounted, hqueued⟩

theorem Served.visit (h : n.Served q) (p : Pair) : (n.visit p).Served q := by
  by_cases hv : n.waiting p = true ∧ n.hasRoom = true
  · rw [visit_of_waiting hv]
    exact h.enqueue hv.2
  · rwa [visit_of_not_waiting hv]

theorem mem_scanOrder (p : Pair) : p ∈ scanOrder := by
  cases p <;> simp [scanOrder, mem_circuitIds]

/-- The refill scan leaves no pair waiting while there is room. -/
theorem Sound.refill (h : n.Sound) : n.refill.Lawful := by
  have hfold (l : List Pair) (m : NoticeUnit) (hm : m.Sound) :
      (l.foldl NoticeUnit.visit m).Sound
        ∧ ∀ q, (m.Served q ∨ q ∈ l) → (l.foldl NoticeUnit.visit m).Served q := by
    induction l generalizing m with
    | nil => exact ⟨hm, fun q hq => hq.resolve_right List.not_mem_nil⟩
    | cons p l ih =>
      obtain ⟨hsound, hserved⟩ := ih _ (hm.visit p)
      refine ⟨hsound, fun q hq => hserved q ?_⟩
      obtain hq | hq := hq
      · exact .inl (hq.visit p)
      · obtain rfl | hq := List.mem_cons.mp hq
        · exact .inl (hm.served_visit q)
        · exact .inr hq
  obtain ⟨hsound, hserved⟩ := hfold scanOrder n h
  exact ⟨hsound, fun p => hserved p (.inr (mem_scanOrder p))⟩

/-! ## POLL, MASK, DISMISS and an emptied receive queue (R164, R169 to R171) -/

theorem record_clearDelivered (n : NoticeUnit) (keeps : Bool) (p q : Pair) :
    (n.clearDelivered keeps p).record q =
      if q = p then { n.record p with unreported := 0, queued := false, latch := keeps && (n.record p).latch }
      else n.record q :=
  n.record_setRecord_ite p q _

/-- Of the delivered pairs nothing is queued or counted any more; the others' records stay. -/
theorem record_delivered (keeps : Pair → Bool) (l : List Pair) (n : NoticeUnit) (q : Pair) :
    let m := l.foldl (fun n p => n.clearDelivered (keeps p) p) n
    (q ∈ l → (m.record q).queued = false ∧ (m.record q).unreported = 0) ∧ (q ∉ l → m.record q = n.record q) := by
  induction l generalizing n with
  | nil => exact ⟨fun h => absurd h List.not_mem_nil, fun _ => rfl⟩
  | cons p l ih =>
    obtain ⟨hin, hout⟩ := ih (n.clearDelivered (keeps p) p)
    refine ⟨fun h => ?_, fun h => ?_⟩
    · by_cases hl : q ∈ l
      · exact hin hl
      · obtain rfl := (List.mem_cons.mp h).resolve_right hl
        rw [List.foldl_cons, hout hl, record_clearDelivered, if_pos rfl]
        exact ⟨rfl, rfl⟩
    · rw [List.mem_cons, not_or] at h
      rw [List.foldl_cons, hout h.2, record_clearDelivered, if_neg h.1]

/-- Pairs that leave the queue with nothing counted leave it sound. -/
theorem Sound.leave {m : NoticeUnit} (h : n.Sound) {rest : List Pair} (hsub : rest.Sublist n.queue)
    (hgone : ∀ q ∈ n.queue, q ∉ rest → (m.record q).queued = false)
    (hothers : ∀ q, q ∈ rest ∨ q ∉ n.queue → (m.record q).queued = (n.record q).queued)
    (hcounted : ∀ q ∈ rest, (m.record q).unreported = (n.record q).unreported)
    (hbounded : ∀ q, (m.record q).unreported ≤ 255) : (m.setQueue rest).Sound where
  length := hsub.length_le.trans h.length
  nodup := hsub.nodup h.nodup
  queued q := by
    show (m.record q).queued = true ↔ q ∈ rest
    by_cases hrest : q ∈ rest
    · rw [hothers q (.inl hrest), h.queued]
      exact iff_of_true (hsub.subset hrest) hrest
    · by_cases hq : q ∈ n.queue
      · rw [hgone q hq hrest]
        exact iff_of_false Bool.false_ne_true hrest
      · rw [hothers q (.inr hq), h.queued]
        exact iff_of_false hq hrest
  counted q hq := by
    show 1 ≤ (m.record q).unreported
    rw [hcounted q hq]
    exact h.counted q (hsub.subset hq)
  bounded := hbounded
  attn := rfl

theorem Lawful.forget_refill (law : n.Lawful) (p : Pair) : (n.forget p).refill.Lawful := by
  have hself (q : Pair) (hq : q ≠ p) :
      (n.setRecord p { n.record p with unreported := 0, queued := false, latch := false }).record q = n.record q :=
    record_setRecord_of_ne n hq _
  refine (law.sound.leave List.filter_sublist (fun q hq hrest => ?_) (fun q hq => ?_) (fun q hq => ?_)
    fun q => ?_).refill
  · have hqp : q = p := by simpa [hq] using hrest
    rw [hqp, record_setRecord]
  · by_cases hqp : q = p
    · subst hqp
      have hnot : q ∉ n.queue := by simpa using hq
      rw [record_setRecord, eq_comm, Bool.eq_false_iff, ne_eq, law.sound.queued]
      exact hnot
    · rw [hself q hqp]
  · rw [hself q (by simpa using (List.mem_filter.mp hq).2)]
  · rw [record_setRecord_ite]
    split
    · exact Nat.zero_le _
    · exact law.sound.bounded q

theorem Lawful.receiveQueueEmpty (law : n.Lawful) (c : CircuitId) : (n.receiveQueueEmpty c).Lawful := by
  refine ⟨law.sound.setRecord rfl le_rfl (law.sound.bounded _), fun q => ?_⟩
  unfold Served NoticeUnit.receiveQueueEmpty
  rw [record_setRecord_ite]
  split
  · next h => exact h ▸ law.served (.arrived c)
  · exact law.served q

theorem Lawful.setMask_on (law : n.Lawful) (p : Pair) : (n.setMask p true).Lawful := by
  refine ⟨law.sound.setRecord rfl le_rfl (law.sound.bounded _), fun q => ?_⟩
  unfold Served NoticeUnit.setMask
  rw [record_setRecord_ite]
  split
  · exact fun hmask => nomatch hmask
  · exact law.served q

theorem Lawful.setMask_off (law : n.Lawful) (p : Pair) : ((n.setMask p false).visit p).Lawful := by
  have hsound : (n.setMask p false).Sound := law.sound.setRecord rfl le_rfl (law.sound.bounded _)
  refine ⟨hsound.visit p, fun q => ?_⟩
  by_cases hq : q = p
  · exact hq ▸ hsound.served_visit p
  · refine Served.visit ?_ p
    unfold Served NoticeUnit.setMask
    rw [record_setRecord_of_ne n hq]
    exact law.served q

end NoticeUnit

theorem State.polled_lawful {s : State} (law : s.notices.Lawful) : s.polled.Lawful := by
  have hparts : s.notices.queue = s.notices.delivered ++ s.notices.queue.drop Config.pollReports :=
    (List.take_append_drop _ _).symm
  have hnodup : (s.notices.delivered ++ s.notices.queue.drop Config.pollReports).Nodup := hparts ▸ law.sound.nodup
  have hdisjoint : ∀ q ∈ s.notices.queue.drop Config.pollReports, q ∉ s.notices.delivered := fun q hq hq' =>
    (List.nodup_append.mp hnodup).2.2 q hq' q hq rfl
  have hin (q : Pair) := (NoticeUnit.record_delivered s.keepsLatch s.notices.delivered s.notices q).1
  have hout (q : Pair) := (NoticeUnit.record_delivered s.keepsLatch s.notices.delivered s.notices q).2
  refine (law.sound.leave (List.drop_sublist _ _) (fun q hq hrest => ?_) (fun q hq => ?_) (fun q hq => ?_)
    fun q => ?_).refill
  · rw [hparts, List.mem_append] at hq
    exact (hin q (hq.resolve_right hrest)).1
  · rw [hout q]
    obtain hq | hq := hq
    · exact hdisjoint q hq
    · exact fun hq' => hq (List.mem_of_mem_take hq')
  · rw [hout q (hdisjoint q hq)]
  · by_cases hq : q ∈ s.notices.delivered
    · rw [(hin q hq).2]
      exact Nat.zero_le _
    · rw [hout q hq]
      exact law.sound.bounded q

end Sys2Proof.Machine
end

section
/-!
SUPPORT. The Arbiter: what it can choose in which state, and that what it takes and the end of a claim keep the laws.
-/

namespace Sys2Proof.Machine

/-! ## What the choice says of the state (R110, R111) -/

theorem circuitsAfter_findSome {f : CircuitId → Option Choice} {p : CircuitId} {x : Choice}
    (h : (circuitsAfter p).findSome? f = some x) : ∃ c, f c = some x := by
  obtain ⟨c, -, hc⟩ := List.exists_of_findSome?_eq_some h
  exact ⟨c, hc⟩

/-- A resend, a word or a data cell is chosen in UP only, and with what its rule asks for. -/
structure Chosen (s : State) (x : Choice) : Prop where
  resend : ∀ i e, x = .resend i e → s.retry.entries[i]? = some e
  word : ∀ c w, x = .word c w → s.link.state = .up ∧ s.retry.entries.length < 48
  data : ∀ c payload, x = .data c payload →
    s.link.state = .up ∧ s.retry.entries.length < 48 ∧ s.dataEligible c = true
      ∧ (s.cells c).sendQueue = payload :: (s.cells c).sendQueue.tail

theorem LinkSlot.choice_kind {l : LinkSlot} {x : Choice} (h : l.choice = some x) :
    (∃ y, x = .linkAnswer y) ∨ ∃ y, x = .linkStanding y := by
  unfold LinkSlot.choice at h
  split at h <;> cases h
  · exact .inl ⟨_, rfl⟩
  · exact .inr ⟨_, rfl⟩

theorem RetryUnit.choice_kind {r : RetryUnit} {x : Choice} (h : r.choice = some x) :
    ∃ i e, x = .resend i e ∧ r.entries[i]? = some e := by
  unfold RetryUnit.choice at h
  split at h
  · obtain ⟨e, he, rfl⟩ := Option.map_eq_some_iff.mp h
    exact ⟨_, e, rfl, he⟩
  · cases h

theorem State.wordChoice_kind {s : State} {x : Choice} (h : s.wordChoice = some x) : ∃ c w, x = .word c w := by
  obtain ⟨c, hc⟩ := circuitsAfter_findSome h
  obtain ⟨w, -, rfl⟩ := Option.map_eq_some_iff.mp hc
  exact ⟨c, w, rfl⟩

theorem State.dataChoice_kind {s : State} {x : Choice} (h : s.dataChoice = some x) :
    ∃ c payload, x = .data c payload ∧ s.dataEligible c = true
      ∧ (s.cells c).sendQueue = payload :: (s.cells c).sendQueue.tail := by
  obtain ⟨c, hc⟩ := circuitsAfter_findSome h
  rw [Option.ite_none_right_eq_some] at hc
  obtain ⟨heligible, hc⟩ := hc
  obtain ⟨payload, hhead, rfl⟩ := Option.map_eq_some_iff.mp hc
  exact ⟨c, payload, rfl, heligible, (List.cons_head?_tail hhead).symm⟩

theorem State.choice_chosen {s : State} {x : Choice} (h : s.choice = some x) : Chosen s x := by
  rw [State.choice, Option.or_eq_some_iff, Option.or_eq_some_iff] at h
  obtain (hlink | ⟨-, hack⟩) | ⟨-, hcells⟩ := h
  · obtain ⟨y, rfl⟩ | ⟨y, rfl⟩ := LinkSlot.choice_kind hlink <;>
      exact ⟨fun _ _ h => (nomatch h), fun _ _ h => (nomatch h), fun _ _ h => (nomatch h)⟩
  · rw [Option.ite_none_right_eq_some] at hack
    obtain ⟨y, -, rfl⟩ := Option.map_eq_some_iff.mp hack.2
    exact ⟨fun _ _ h => (nomatch h), fun _ _ h => (nomatch h), fun _ _ h => (nomatch h)⟩
  · rw [Option.ite_none_right_eq_some] at hcells
    obtain ⟨hallows, hcells⟩ := hcells
    have hup : s.link.state = .up := by
      cases hs : s.link.state <;> simp_all [TrunkState.allowsCells]
    obtain hresend | ⟨-, hfirst⟩ := Option.or_eq_some_iff.mp hcells
    · obtain ⟨i, e, rfl, he⟩ := RetryUnit.choice_kind hresend
      exact ⟨fun _ _ h => by cases h; exact he, fun _ _ h => (nomatch h), fun _ _ h => (nomatch h)⟩
    · rw [State.firstChoice, Option.ite_none_right_eq_some, Bool.and_eq_true] at hfirst
      obtain ⟨⟨-, hroom⟩, hfirst⟩ := hfirst
      have hlength : s.retry.entries.length < 48 := of_decide_eq_true hroom
      obtain hword | ⟨-, hdata⟩ := Option.or_eq_some_iff.mp hfirst
      · obtain ⟨c, w, rfl⟩ := State.wordChoice_kind hword
        exact ⟨fun _ _ h => (nomatch h), fun _ _ _ => ⟨hup, hlength⟩, fun _ _ h => (nomatch h)⟩
      · obtain ⟨c, payload, rfl, heligible, hqueue⟩ := State.dataChoice_kind hdata
        exact ⟨fun _ _ h => (nomatch h), fun _ _ h => (nomatch h), fun _ _ h => by
          cases h
          exact ⟨hup, hlength, heligible, hqueue⟩⟩

/-! ## Numbering and resending (R76, R77) -/

theorem consecutive_append (n : Byte) (l : List RetryEntry) (e : RetryEntry) :
    consecutive n (l ++ [e]) = (consecutive n l && e.sequence == n + count8 l.length) := by
  induction l generalizing n with
  | nil => simp [consecutive, count8]
  | cons a l ih =>
    have hsum : n + 1 + count8 l.length = n + count8 (l.length + 1) := by
      rw [count8, count8, BitVec.ofNat_add]
      ac_rfl
    rw [List.cons_append, consecutive, consecutive, ih, hsum, List.length_cons, Bool.and_assoc]

theorem consecutive_congr {l l' : List RetryEntry} (h : l.map (·.sequence) = l'.map (·.sequence)) (n : Byte) :
    consecutive n l = consecutive n l' := by
  induction l generalizing l' n with
  | nil =>
    cases l' with
    | nil => rfl
    | cons => cases h
  | cons a l ih =>
    cases l' with
    | nil => cases h
    | cons b l' =>
      rw [List.map_cons, List.map_cons, List.cons.injEq] at h
      rw [consecutive, consecutive, h.1, ih h.2]

@[simp] theorem State.number_ctx (s : State) (c d : CircuitId) (content : EntryContent) :
    (s.number c content).ctx d = s.ctx d := rfl

@[simp] theorem State.number_cells (s : State) (c d : CircuitId) (content : EntryContent) :
    (s.number c content).cells d = s.cells d := rfl

/-- A numbered cell takes the next place of a queue that has room. -/
theorem State.number_retry {s : State} (c : CircuitId) (content : EntryContent) (hup : s.link.state = .up)
    (hroom : s.retry.entries.length < 48) (law : RetryLaw s) : RetryLaw (s.number c content) := by
  obtain ⟨-, hnumbers, hpointer, -, htimer⟩ := law
  have hlength : (s.number c content).retry.entries.length = s.retry.entries.length + 1 := List.length_append
  refine ⟨by omega, ?_, fun i hi => ?_, .inl hup, fun hpower => ?_⟩
  · have hfirst : s.retry.nextSequence + 1 - count8 (s.retry.entries.length + 1)
        = s.retry.nextSequence - count8 s.retry.entries.length := by
      rw [count8, count8, BitVec.ofNat_add]
      bv_omega
    rw [hlength]
    show consecutive (s.retry.nextSequence + 1 - _) (s.retry.entries ++ [_]) = true
    rw [hfirst, consecutive_append, hnumbers]
    simp
  · have := hpointer i hi
    omega
  · refine iff_of_true ?_ ⟨hup, List.append_ne_nil_of_right_ne_nil _ (List.cons_ne_nil _ _)⟩
    show (if s.retry.entries.isEmpty && s.link.state == .up then some s.port.parameters.ackTimeout
      else s.retry.replayTimer).isSome = true
    split
    · rfl
    · next h =>
      refine (htimer hpower).mpr ⟨hup, fun hempty => h ?_⟩
      rw [hempty, hup]
      rfl

theorem dataCells_append (l l' : List RetryEntry) : dataCells (l ++ l') = dataCells l + dataCells l' := by
  rw [dataCells, List.filter_append, List.length_append]
  rfl

theorem RetryUnit.resent_map {α : Type} (r : RetryUnit) (i : Nat) (f : RetryEntry → α)
    (hf : ∀ e n, f { e with transmissions := n } = f e) : (r.resent i).entries.map f = r.entries.map f := by
  refine List.ext_getElem (by simp [RetryUnit.resent]) fun j _ _ => ?_
  simp only [RetryUnit.resent, List.getElem_map, List.getElem_modify]
  split
  · exact hf _ _
  · rfl

theorem RetryUnit.resent_length (r : RetryUnit) (i : Nat) : (r.resent i).entries.length = r.entries.length :=
  List.length_modify _ _ _

theorem RetryUnit.resent_dataCells (r : RetryUnit) (i : Nat) :
    dataCells (r.resent i).entries = dataCells r.entries := by
  have hcount (l : List RetryEntry) : dataCells l = (l.map RetryEntry.isData).count true := by
    rw [dataCells, ← List.countP_eq_length_filter, List.count, List.countP_map]
    congr 1
    funext e
    simp
  rw [hcount, hcount, r.resent_map i RetryEntry.isData fun _ _ => rfl]

theorem RetryUnit.resent_ne_nil (r : RetryUnit) (i : Nat) : (r.resent i).entries ≠ [] ↔ r.entries ≠ [] := by
  rw [← List.length_pos_iff, ← List.length_pos_iff, r.resent_length]

theorem State.resend_keeps (s : State) (i : Nat) (e : RetryEntry) : Keeps s (s.take (.resend i e)) where
  toQueuesKeep := ⟨rfl, rfl, id⟩
  power := rfl
  pending := rfl
  notices := id
  pool law := PoolLaw.of_eq (s := s) rfl (s.retry.resent_dataCells i) law
  calls law := law
  nap law := by
    rw [napLaw_iff] at law ⊢
    refine ⟨law.1, fun hstill => ?_, law.2.2⟩
    rw [← not_not (a := (s.take (.resend i e)).retry.entries = [])]
    exact fun h => (s.retry.resent_ne_nil i).mp h (law.2.1 hstill)
  retry _ _ law := by
    obtain ⟨hlength, hnumbers, hpointer, hplace, htimer⟩ := law
    have hentries : (s.retry.resent i).entries.length = s.retry.entries.length := s.retry.resent_length i
    refine ⟨hentries.trans_le hlength, ?_, fun j hj => ?_, ?_, fun hpower => ?_⟩
    · show consecutive (s.retry.nextSequence - count8 (s.retry.resent i).entries.length) (s.retry.resent i).entries = _
      rw [hentries, consecutive_congr (s.retry.resent_map i (·.sequence) fun _ _ => rfl)]
      exact hnumbers
    · show j < (s.retry.resent i).entries.length
      obtain ⟨hi, hj⟩ := Option.ite_none_right_eq_some.mp hj
      rw [hentries]
      cases hj
      exact hi
    · obtain h | h | h := hplace
      · exact .inl h
      · exact .inr (.inl h)
      · refine .inr (.inr ?_)
        rw [← not_not (a := (s.take (.resend i e)).retry.entries = [])]
        exact fun h' => (s.retry.resent_ne_nil i).mp h' h
    · show s.retry.replayTimer.isSome = true ↔ s.link.state = .up ∧ (s.retry.resent i).entries ≠ []
      rw [s.retry.resent_ne_nil]
      exact htimer hpower

/-! ## First transmissions (R58, R76) -/

/-- A claim that numbers one cell in UP, and touches one circuit's call, keeps the laws where the call keeps its own. -/
theorem Keeps.of_number {s t : State} {c : CircuitId} {content : EntryContent} (rest : SameRest s t)
    (hup : s.link.state = .up) (hroom : s.retry.entries.length < 48)
    (link : t.link = s.link) (retry : t.retry = (s.number c content).retry)
    (hpool : PoolLaw s → PoolLaw t) (hcalls : CallLaw s → CallLaw t)
    (hstates : ∀ d, (t.ctx d).state = .waking → (s.ctx d).state = .waking) : Keeps s t where
  toQueuesKeep := rest.toQueuesKeep
  power := rest.power
  pending := rest.pending
  notices := rest.notices
  pool := hpool
  calls := hcalls
  nap law := by
    rw [napLaw_iff] at law ⊢
    rw [link, hup] at *
    obtain ⟨htimer, -, hadmits⟩ := law
    refine ⟨htimer, fun hstill => (nomatch hstill), fun d => TrunkState.admits_of_ne_waking rfl fun hd => ?_⟩
    exact TrunkState.ne_waking_of_admits rfl (hadmits d) (hstates d hd)
  retry _ _ law := by
    have hnumber := State.number_retry c content hup hroom law
    unfold RetryLaw at hnumber ⊢
    rw [link, retry, rest.power]
    exact hnumber

theorem State.takeWord_keeps {s : State} (c : CircuitId) (w : Sendable) (hup : s.link.state = .up)
    (hroom : s.retry.entries.length < 48) : Keeps s (s.takeWord c w) :=
  .of_number (c := c) (content := .control w.word w.callNumber) ⟨⟨rfl, rfl, id⟩, rfl, rfl, id⟩ hup hroom rfl rfl
    (PoolLaw.of_eq (s := s) rfl (dataCells_append _ _)) id fun _ => id

/-- What a data cell leaves of its circuit's call. -/
theorem CircuitLaw.dataTaken {x : Context} {y : Cells} {payload : Payload} {rest : List Payload}
    (law : CircuitLaw x y) (hstate : x.state = .connected ∨ x.state = .releasing) (hcredit : x.credit ≠ 0)
    (hqueue : y.sendQueue = payload :: rest) :
    CircuitLaw { x with sentCount := x.sentCount + 1 } { y with sendQueue := rest } := by
  obtain ⟨hlive, hnot, hquiet, hdialing, hleast, hmost, hsend, hreceive, hlimit, hanswer⟩ := law
  refine ⟨hlive, fun h => ?_, fun h => ?_, fun h => ?_, hleast, hmost, ?_, hreceive, ?_, hanswer⟩
  · obtain hs | hs := hstate <;> exact absurd h (by simp [hs, CircuitState.isLive])
  · obtain hs | hs := hstate <;> exact absurd h (by simp [hs])
  · obtain hs | hs := hstate <;> exact absurd h (by simp [hs])
  · rw [hqueue, List.length_cons] at hsend
    exact Nat.le_of_succ_le hsend
  · show (x.creditLimit - (x.sentCount + 1)).toNat ≤ 32
    unfold Context.credit at hcredit hlimit
    bv_omega

/-- A circuit whose send queue has emptied may become QUIETING. -/
theorem CircuitLaw.quieting {x : Context} {y : Cells} (law : CircuitLaw x y) (hstate : x.state = .connected)
    (hqueue : y.sendQueue = []) (cause : Option CircuitCause) :
    CircuitLaw { x with state := .quieting, lastCause := cause } y := by
  obtain ⟨hlive, -, -, -, hrest⟩ := law
  exact ⟨fun _ => hlive (by rw [hstate]; rfl), fun h => (nomatch h), fun _ => hqueue, fun h => (nomatch h), hrest⟩

theorem State.sendQueueShortened_only (s : State) (c : CircuitId) : OnlyCircuit c s (s.sendQueueShortened c) := by
  unfold State.sendQueueShortened
  split
  · exact (s.setCtx_only c _).trans (State.report_only _ c _)
  · exact .refl c s

@[simp] theorem State.sendQueueShortened_cells (s : State) (c d : CircuitId) :
    (s.sendQueueShortened c).cells d = s.cells d := by
  unfold State.sendQueueShortened
  split <;> rfl

theorem State.sendQueueShortened_sameCall (s : State) (c : CircuitId) :
    (s.ctx c).SameCall ((s.sendQueueShortened c).ctx c) := by
  unfold State.sendQueueShortened
  split
  · rw [State.report_ctx, State.ctx_setCtx, if_pos rfl]
    exact ⟨rfl, rfl, rfl, rfl, rfl, rfl, rfl, rfl⟩
  · exact .refl _

theorem State.sendQueueEmptied_eq (s : State) (c : CircuitId) :
    s.sendQueueEmptied c
      = if (s.ctx c).state = .connected ∧ (s.ctx c).quietMarker = true then
          (s.setSlots c (s.slots c).clearDraining).enter c .quieting .host
        else s.setSlots c (s.slots c).clearDraining := rfl

theorem State.sendQueueEmptied_only (s : State) (c : CircuitId) : OnlyCircuit c s (s.sendQueueEmptied c) := by
  rw [State.sendQueueEmptied_eq]
  split
  · exact (s.setSlots_only c c _).trans (State.enter_only _ c _ _)
  · exact s.setSlots_only c c _

@[simp] theorem State.sendQueueEmptied_cells (s : State) (c d : CircuitId) :
    (s.sendQueueEmptied c).cells d = s.cells d := by
  rw [State.sendQueueEmptied_eq]
  split <;> rfl

theorem State.sendQueueEmptied_law {s : State} {c : CircuitId} (law : CircuitLaw (s.ctx c) (s.cells c))
    (hqueue : (s.cells c).sendQueue = []) : CircuitLaw ((s.sendQueueEmptied c).ctx c) (s.cells c) := by
  rw [State.sendQueueEmptied_eq]
  split
  · next h =>
    rw [State.enter_ctx, if_pos rfl]
    exact law.quieting h.1 hqueue _
  · exact law

theorem State.sendQueueEmptied_ne_waking {s : State} {c : CircuitId}
    (h : ((s.sendQueueEmptied c).ctx c).state = .waking) : (s.ctx c).state = .waking := by
  rw [State.sendQueueEmptied_eq] at h
  split at h
  · rw [State.enter_ctx, if_pos rfl] at h
    cases h
  · exact h

/-- The state once a data cell has left its queue and has been numbered (R58, R76). -/
def State.dataNumbered (s : State) (c : CircuitId) (payload : Payload) : State :=
  State.number
    ((s.setCells c { s.cells c with sendQueue := (s.cells c).sendQueue.tail }).setCtx c
      { s.ctx c with sentCount := (s.ctx c).sentCount + 1 })
    c (.data payload)

theorem State.takeData_eq (s : State) (c : CircuitId) (payload : Payload) :
    s.takeData c payload
      = let u := (s.dataNumbered c payload).sendQueueShortened c
        let v := if (u.cells c).sendQueue.isEmpty then u.sendQueueEmptied c else u
        State.send { v with transmit := { v.transmit with dataPointer := c } } .firstData
          (.data s.retry.nextSequence c payload) := rfl

theorem State.dataNumbered_keeps {s : State} {c : CircuitId} {payload : Payload} (hup : s.link.state = .up)
    (hroom : s.retry.entries.length < 48) (heligible : s.dataEligible c = true)
    (hqueue : (s.cells c).sendQueue = payload :: (s.cells c).sendQueue.tail) :
    Keeps s (s.dataNumbered c payload) := by
  simp only [State.dataEligible, Bool.and_eq_true, Bool.or_eq_true, beq_iff_eq, bne_iff_ne] at heligible
  obtain ⟨⟨hstate, -⟩, hcredit⟩ := heligible
  have hctx : (s.dataNumbered c payload).ctx c = { s.ctx c with sentCount := (s.ctx c).sentCount + 1 } := by
    rw [State.dataNumbered, State.number_ctx, State.ctx_setCtx, if_pos rfl]
  have hcells : (s.dataNumbered c payload).cells c = { s.cells c with sendQueue := (s.cells c).sendQueue.tail } := by
    rw [State.dataNumbered, State.number_cells, State.setCtx_cells, State.cells_setCells, if_pos rfl]
  have hctx' (d : CircuitId) (hd : d ≠ c) : (s.dataNumbered c payload).ctx d = s.ctx d := by
    rw [State.dataNumbered, State.number_ctx, State.ctx_setCtx, if_neg hd]
    rfl
  have hcells' (d : CircuitId) (hd : d ≠ c) : (s.dataNumbered c payload).cells d = s.cells d := by
    rw [State.dataNumbered, State.number_cells, State.setCtx_cells, State.cells_setCells, if_neg hd]
  refine .of_number (c := c) (content := .data payload) ⟨⟨rfl, rfl, id⟩, rfl, rfl, id⟩ hup hroom rfl rfl
    (fun law => ?_) (fun law d => ?_) fun d hd => ?_
  · have hsum := circuitSum_exchange (f := (s.dataNumbered c payload).cellsOf) (g := s.cellsOf) (c := c) fun d hd => by
      rw [State.cellsOf, State.cellsOf, hcells' d hd]
    have hlength := congrArg List.length hqueue
    have hentries : dataCells (s.dataNumbered c payload).retry.entries = dataCells s.retry.entries + 1 :=
      dataCells_append _ _
    rw [List.length_cons] at hlength
    simp only [State.cellsOf, hcells] at hsum
    unfold PoolLaw at *
    rw [hentries]
    show s.pool.free + _ + _ = 256
    omega
  · by_cases hd : d = c
    · rw [hd, hctx, hcells]
      exact (law c).dataTaken hstate hcredit hqueue
    · rw [hctx' d hd, hcells' d hd]
      exact law d
  · by_cases hdc : d = c
    · rw [hdc, hctx] at hd
      rw [hdc]
      exact hd
    · rwa [hctx' d hdc] at hd

theorem State.takeData_keeps {s : State} {c : CircuitId} {payload : Payload} (hup : s.link.state = .up)
    (hroom : s.retry.entries.length < 48) (heligible : s.dataEligible c = true)
    (hqueue : (s.cells c).sendQueue = payload :: (s.cells c).sendQueue.tail) : Keeps s (s.takeData c payload) := by
  refine (State.dataNumbered_keeps hup hroom heligible hqueue).trans ?_
  rw [State.takeData_eq]
  generalize hnumbered : s.dataNumbered c payload = n
  have hlink : n.link.state = .up := by rw [← hnumbered]; exact hup
  extract_lets u v
  have hu : OnlyCircuit c n u := n.sendQueueShortened_only c
  have hv : OnlyCircuit c u v := by
    dsimp only [v]
    split
    · exact u.sendQueueEmptied_only c
    · exact .refl c u
  have hsent (w : State) (f : TrunkFrame) :
      OnlyCircuit c w (State.send { w with transmit := { w.transmit with dataPointer := c } } .firstData f) :=
    .of_same ⟨⟨rfl, rfl, id⟩, rfl, rfl, id⟩ ⟨rfl, rfl, rfl, rfl, rfl, rfl⟩ ⟨rfl, fun _ => rfl, fun _ => .refl _⟩
  refine ((hu.trans hv).trans (hsent v _)).keeps (fun law => ?_) fun hadmits => ?_
  · show CircuitLaw (v.ctx c) (v.cells c)
    have hlaw : CircuitLaw (u.ctx c) (u.cells c) := by
      rw [n.sendQueueShortened_cells]
      exact law.of_sameCall (n.sendQueueShortened_sameCall c)
    dsimp only [v]
    split
    · next hempty =>
      rw [u.sendQueueEmptied_cells]
      exact State.sendQueueEmptied_law hlaw (List.isEmpty_iff.mp hempty)
    · exact hlaw
  · show n.link.state.admits (v.ctx c).state = true
    have hawake : (n.ctx c).state ≠ .waking := TrunkState.ne_waking_of_admits (by rw [hlink]; rfl) hadmits
    refine TrunkState.admits_of_ne_waking (by rw [hlink]; rfl) fun hwaking => hawake ?_
    rw [← (n.sendQueueShortened_sameCall c).state]
    dsimp only [v] at hwaking
    split at hwaking
    · exact State.sendQueueEmptied_ne_waking hwaking
    · exact hwaking

/-! ## The end of a claim (R109, R161) -/

theorem State.take_keeps {s : State} {x : Choice} (h : Chosen s x) : Keeps s (s.take x) := by
  cases x with
  | linkAnswer y | linkStanding y | ackNak y =>
    exact .of_same ⟨⟨rfl, rfl, id⟩, rfl, rfl, id⟩ ⟨rfl, rfl, rfl, rfl, rfl, rfl⟩ ⟨rfl, fun _ => rfl, fun _ => .refl _⟩
  | resend i e => exact s.resend_keeps i e
  | word c w =>
    obtain ⟨hup, hroom⟩ := h.word c w rfl
    exact State.takeWord_keeps c w hup hroom
  | data c payload =>
    obtain ⟨hup, hroom, heligible, hqueue⟩ := h.data c payload rfl
    exact State.takeData_keeps hup hroom heligible hqueue

theorem State.closeClaim_keeps (s : State) : Keeps s s.closeClaim :=
  .of_same ⟨⟨rfl, rfl, id⟩, rfl, rfl, fun law => law.takeRaised⟩ ⟨rfl, rfl, rfl, rfl, rfl, rfl⟩
    ⟨rfl, fun _ => rfl, fun _ => .refl _⟩

theorem State.arbitrate_keeps (s : State) : Keeps s s.arbitrate := by
  unfold State.arbitrate
  split
  · exact .refl s
  · split
    · next h => exact (State.take_keeps (State.choice_chosen h)).trans (State.closeClaim_keeps _)
    · exact .refl s

theorem State.settle_keeps (s : State) : Keeps s s.settle := s.closeClaim_keeps.trans s.closeClaim.arbitrate_keeps

/-- No occurrence waits after the end of a claim. -/
theorem State.settle_raised (s : State) : s.settle.notices.raised = [] := by
  have hclose (u : State) : u.closeClaim.notices.raised = [] := u.notices.takeRaised_raised
  unfold State.settle State.arbitrate
  split
  · exact hclose s
  · split
    · exact hclose _
    · exact hclose s

end Sys2Proof.Machine
end

section
/-!
SUPPORT. Requests: what each request leaves of the laws (chapters Circuit Contexts and Calls, Quiet and Wake, Cell Pool
and Credit).
-/

namespace Sys2Proof.Machine

/-! ## Calls that change their state -/

/-- A live call that stays live under another state keeps its laws. -/
theorem CircuitLaw.move {x x' : Context} {y : Cells} (law : CircuitLaw x y)
    (same : x.SameCall { x' with state := x.state }) (hx : x.state.isLive = true) (hx' : x'.state.isLive = true)
    (hquiet : x'.state = .quieting ∨ x'.state = .quiet → y.sendQueue = []) (hdialing : x'.state ≠ .dialing) :
    CircuitLaw x' y := by
  obtain ⟨hlive, -, -, -, hrest⟩ := law.of_sameCall same
  refine ⟨fun _ => hlive hx, fun h => ?_, hquiet, fun h => absurd h hdialing, hrest⟩
  rw [hx'] at h
  cases h

/-- A circuit without a live call keeps its laws under another state without one. -/
theorem CircuitLaw.rest {x x' : Context} {y : Cells} (law : CircuitLaw x y)
    (same : x.SameCall { x' with state := x.state }) (hx : x.state.isLive = false) (hx' : x'.state.isLive = false) :
    CircuitLaw x' y := by
  have law' := law.of_sameCall same
  rw [circuitLaw_of_not_live hx']
  rwa [circuitLaw_of_not_live (by exact hx)] at law'

/-- A trunk that admits a call which can neither nap nor waits for a rouse admits every call that does not wait. -/
theorem TrunkState.admits_call {u : TrunkState} {st st' : CircuitState} (h : u.admits st = true)
    (hst : st.mayNap = false) (hwaking : st ≠ .waking) (hst' : st' ≠ .waking) : u.admits st' = true := by
  refine TrunkState.admits_of_ne_waking ?_ hst'
  cases u <;> simp_all [TrunkState.admits, TrunkState.isStill]

/-- Circuit `c` enters another state. -/
theorem State.enter_keeps {s : State} {c : CircuitId} {st : CircuitState} (cause : CircuitCause)
    (law : CircuitLaw (s.ctx c) (s.cells c) →
      CircuitLaw { s.ctx c with state := st, lastCause := some cause } (s.cells c))
    (nap : s.link.state.admits (s.ctx c).state = true → s.link.state.admits st = true) :
    Keeps s (s.enter c st cause) := by
  refine (s.enter_only c st cause).keeps (fun h => ?_) fun h => ?_
  · rw [State.enter_ctx, if_pos rfl]
    exact law h
  · rw [State.enter_ctx, if_pos rfl]
    exact nap h

theorem State.setSlots_keeps (s : State) (c : CircuitId) (l : Slots) : Keeps s (s.setSlots c l) :=
  (s.setSlots_only c c l).keeps id id

/-- A context that changes outside the laws' fields. -/
theorem State.setCtx_keeps {s : State} {c : CircuitId} {x : Context} (h : (s.ctx c).SameCall x) :
    Keeps s (s.setCtx c x) := by
  refine (s.setCtx_only c x).keeps (fun law => ?_) fun hadmits => ?_
  · rw [State.ctx_setCtx, if_pos rfl]
    exact law.of_sameCall h
  · rw [State.ctx_setCtx, if_pos rfl, h.state]
    exact hadmits

/-- A call that is closed down, whose circuit then enters a state without a live call. -/
theorem OnlyCircuit.ends {c : CircuitId} {s t : State} {keepRole : Bool}
    (h : OnlyCircuit c (s.closeDown c keepRole) t) (hcells : t.cells c = (s.closeDown c keepRole).cells c)
    (hdepth : (t.ctx c).sendDepth = ((s.closeDown c keepRole).ctx c).sendDepth)
    (hanswer : (t.ctx c).answerWindow = ((s.closeDown c keepRole).ctx c).answerWindow)
    (hcredit : (s.ctx c).credit.toNat ≤ 32 → (t.ctx c).credit.toNat ≤ 32) (hlive : (t.ctx c).state.isLive = false) :
    OnlyCircuit c s t ∧ (CircuitLaw (s.ctx c) (s.cells c) → CircuitLaw (t.ctx c) (t.cells c)) :=
  ⟨(s.closeDown_only c keepRole).trans h, fun law => law.ended hlive (by rw [hcells, State.closeDown_cells])
    (by rw [hdepth, State.closeDown_sendDepth]) (by rw [hanswer, State.closeDown_answerWindow]) (hcredit law.credit_le)⟩

/-- A call closed down, its circuit left with the slots given, and the entry to a state without a call. -/
theorem State.closeDown_enter_ends (s : State) (c : CircuitId) (keepRole : Bool) (l : Slots) {st : CircuitState}
    (cause : CircuitCause) (hst : st.isLive = false) :
    let t := ((s.closeDown c keepRole).setSlots c l).enter c st cause
    OnlyCircuit c s t ∧ (CircuitLaw (s.ctx c) (s.cells c) → CircuitLaw (t.ctx c) (t.cells c)) := by
  intro t
  have hctx : t.ctx c = { (s.closeDown c keepRole).ctx c with state := st, lastCause := some cause } := by
    rw [State.enter_ctx, if_pos rfl]
    rfl
  refine OnlyCircuit.ends ((State.setSlots_only _ c c l).trans (State.enter_only _ c st cause)) rfl ?_ ?_
    (fun hcredit => ?_) ?_ <;> rw [hctx]
  · rw [← s.closeDown_credit c keepRole] at hcredit
    exact hcredit
  · exact hst

theorem State.closeDown_enter_idle_keeps (s : State) (c : CircuitId) (l : Slots) (cause : CircuitCause) :
    Keeps s (((s.closeDown c false).setSlots c l).enter c .idle cause) := by
  obtain ⟨honly, law⟩ := s.closeDown_enter_ends c false l cause (st := .idle) rfl
  refine honly.keeps law fun _ => ?_
  rw [State.enter_ctx, if_pos rfl]
  exact TrunkState.admits_of_mayNap rfl

theorem State.setSlots_slots (s : State) (c : CircuitId) : s.setSlots c (s.slots c) = s := by
  rw [State.setSlots, State.slots, PerCircuit.set_get]

theorem State.closeDown_idle_keeps (s : State) (c : CircuitId) (cause : CircuitCause) :
    Keeps s ((s.closeDown c false).enter c .idle cause) := by
  have h := s.closeDown_enter_idle_keeps c ((s.closeDown c false).slots c) cause
  rwa [State.setSlots_slots] at h

theorem State.declineCall_keeps (s : State) (c : CircuitId) (reason : Byte) (cause : CircuitCause) :
    Keeps s (s.declineCall c reason cause) := s.closeDown_enter_idle_keeps c _ cause

theorem State.giveUpDial_keeps (s : State) (c : CircuitId) (cause : CircuitCause) :
    Keeps s (s.giveUpDial c cause) := by
  unfold State.giveUpDial
  extract_lets sent u v
  dsimp only [v]
  split
  · exact s.closeDown_enter_idle_keeps c _ cause
  · exact s.closeDown_idle_keeps c cause

theorem State.hungUp_keeps (s : State) (c : CircuitId) (cause : CircuitCause) (answer : Bool) :
    Keeps s (s.hungUp c cause answer) := by
  cases answer with
  | true => exact s.closeDown_enter_idle_keeps c _ cause
  | false => exact s.closeDown_idle_keeps c cause

/-! ## Dialling and answering -/

/-- A reservation that the free cells cover. -/
theorem State.reserve_only {s : State} {window : Nat} (c : CircuitId) (h : window ≤ s.pool.free) :
    OnlyCircuit c s (s.reserve c window) := by
  refine s.setCells_only c _ (s.pool.free - window) s.pool.lostCells ?_
  rw [State.cellsOf]
  show s.pool.free - window
    + ((s.cells c).reserved + window + (s.cells c).receiveQueue.length + (s.cells c).sendQueue.length) = _
  omega

@[simp] theorem State.reserve_ctx (s : State) (c d : CircuitId) (window : Nat) :
    (s.reserve c window).ctx d = s.ctx d := rfl

theorem State.reserve_cells (s : State) (c : CircuitId) (window : Nat) :
    (s.reserve c window).cells c = { s.cells c with reserved := (s.cells c).reserved + window } := by
  rw [State.reserve, State.cells_setCells, if_pos rfl]

theorem isWindow_iff (w : Byte) : isWindow w = true ↔ 2 ≤ w.toNat ∧ w.toNat ≤ 32 := decide_eq_true_iff
theorem isDepth_iff (d : Byte) : isDepth d = true ↔ 1 ≤ d.toNat ∧ d.toNat ≤ 32 := decide_eq_true_iff

/-- A call that opens on an unused reservation (R10, R15). -/
theorem CircuitLaw.opened {x x' : Context} {y : Cells} {window : Nat} (law : CircuitLaw x y)
    (hx : x.state.isLive = false) (hunread : y.receiveQueue = []) (hwindow : window ≤ 32)
    (hheld : x'.window = some window) (hgranted : x'.granted - x'.receivedCount = count8 window)
    (hx' : x'.state.isLive = true) (hdepth : 1 ≤ x'.sendDepth ∧ x'.sendDepth ≤ 32)
    (hsent : x'.state = .dialing → x'.sentCount = 0) (hcredit : x'.credit.toNat ≤ 32)
    (hanswer : x'.answerWindow = x.answerWindow) :
    CircuitLaw x' { y with reserved := y.reserved + window } := by
  rw [circuitLaw_of_not_live hx] at law
  obtain ⟨⟨hreserved, hsend⟩, -, -, -, -, hlimit⟩ := law
  simp only [hreserved, Nat.zero_add]
  refine ⟨fun _ => ⟨?_, ?_, hgranted⟩, fun h => ?_, fun _ => hsend, fun h => ⟨hsent h, hunread, hsend⟩, hdepth.1,
    hdepth.2, ?_, ?_, hcredit, by rwa [hanswer]⟩
  · simp [hheld, hunread]
  · simp [hunread, hwindow]
  · rw [hx'] at h
    cases h
  · simp [hsend]
  · simp [hunread]

/-- The call a DIAL opens, before a nap ask is abandoned (R10). -/
def State.dialled (s : State) (c : CircuitId) (window depth : Byte) : State :=
  State.enter
    (((s.reserve c window.toNat).setCtx c
      { s.ctx c with
        callNumber := (s.ctx c).callNumber + 1, role := some .caller, window := some window.toNat
        sendDepth := depth.toNat, creditLimit := 0, sentCount := 0, granted := window, receivedCount := 0
        timer := .dial s.port.parameters.dialTimeout }).setSlots c
      { s.slots c with request := some ⟨.dial window, (s.ctx c).callNumber + 1, false, false⟩, overflow := none })
    c .dialing .host

theorem State.openCall_eq (s : State) (c : CircuitId) (window depth : Byte) :
    s.openCall c window depth = (s.dialled c window depth).abandonNapAsk .host := rfl

/-- A DIAL passes its checks where none of them fails (R9). -/
theorem State.dialRefusal_none {s : State} {c : CircuitId} {window depth : Byte}
    (h : s.dialRefusal c window depth = none) :
    (s.ctx c).state = .idle ∧ (s.cells c).receiveQueue = [] ∧ s.link.state.isNapping = false
      ∧ isWindow window = true ∧ isDepth depth = true ∧ window.toNat ≤ s.pool.free := by
  simp only [State.dialRefusal, ite_eq_iff, reduceCtorEq, and_false, false_or, and_true] at h
  obtain ⟨hidle, hunread, -, hnapping, hvalues, hfree⟩ := h
  simp only [Bool.not_eq_true', Bool.not_eq_false, Bool.and_eq_true, List.isEmpty_iff] at hunread hvalues
  exact ⟨not_not.mp hidle, hunread, Bool.not_eq_true _ ▸ hnapping, hvalues.1, hvalues.2, not_lt.mp hfree⟩

theorem State.dialled_only {s : State} {window : Byte} (c : CircuitId) (depth : Byte)
    (h : window.toNat ≤ s.pool.free) : OnlyCircuit c s (s.dialled c window depth) :=
  (((s.reserve_only c h).trans (State.setCtx_only _ c _)).trans (State.setSlots_only _ c c _)).trans
    (State.enter_only _ c _ _)

theorem dialRequest_keeps (s : State) (c : CircuitId) (window depth : Byte) :
    Keeps s (dialRequest c window depth s).state := by
  unfold dialRequest
  split
  · exact .refl s
  · next h =>
    obtain ⟨hidle, hunread, hnapping, hwindow, hdepth, hfree⟩ := State.dialRefusal_none h
    rw [isWindow_iff] at hwindow
    show Keeps s (s.openCall c window depth)
    rw [State.openCall_eq]
    refine (s.dialled_only c depth hfree).keeps_abandon (fun law => ?_) ?_ hnapping _
    · rw [State.dialled, State.enter_ctx, if_pos rfl, State.enter_cells]
      simp only [State.setSlots_cells, State.setSlots_ctx, State.setCtx_cells, State.ctx_setCtx, if_true,
        State.reserve_cells]
      exact law.opened (by rw [hidle]; rfl) hunread hwindow.2 rfl (by simp [count8]) rfl ((isDepth_iff depth).mp hdepth)
        (fun _ => rfl) (by simp [Context.credit]) rfl
    · rw [State.dialled, State.enter_ctx, if_pos rfl]
      exact CircuitState.noConfusion

/-- An ACCEPT passes its checks where none of them fails (R15). -/
theorem State.acceptRefusal_none {s : State} {c : CircuitId} {window depth : Byte}
    (h : s.acceptRefusal c window depth = none) :
    (s.ctx c).state = .ringing ∧ (s.cells c).receiveQueue = [] ∧ (window = 0 ∨ isWindow window = true)
      ∧ (depth = 0 ∨ isDepth depth = true) ∧ acceptWindow (s.ctx c) window ≤ s.pool.free := by
  simp only [State.acceptRefusal, ite_eq_iff, reduceCtorEq, and_false, false_or, and_true] at h
  obtain ⟨hringing, hunread, hvalues, hfree⟩ := h
  simp only [Bool.not_eq_true', Bool.not_eq_false, Bool.and_eq_true, Bool.or_eq_true, beq_iff_eq, List.isEmpty_iff]
    at hunread hvalues
  exact ⟨not_not.mp hringing, hunread, hvalues.1, hvalues.2, not_lt.mp hfree⟩

theorem State.answerCall_only {s : State} {window : Nat} (c : CircuitId) (depth : Nat) (h : window ≤ s.pool.free) :
    OnlyCircuit c s (s.answerCall c window depth) :=
  (((s.reserve_only c h).trans (State.setCtx_only _ c _)).trans (State.setSlots_only _ c c _)).trans
    (State.enter_only _ c _ _)

theorem acceptWindow_le {x : Context} {window : Byte} (h : window = 0 ∨ isWindow window = true)
    (hx : x.answerWindow ≤ 32) : acceptWindow x window ≤ 32 := by
  unfold acceptWindow
  split
  · exact hx
  · next hwindow => exact ((isWindow_iff window).mp (h.resolve_left hwindow)).2

theorem acceptDepth_bounds {depth : Byte} (h : depth = 0 ∨ isDepth depth = true) :
    1 ≤ acceptDepth depth ∧ acceptDepth depth ≤ 32 := by
  unfold acceptDepth
  split
  · decide
  · next hdepth => exact (isDepth_iff depth).mp (h.resolve_left hdepth)

theorem acceptRequest_keeps (s : State) (c : CircuitId) (window depth : Byte) :
    Keeps s (acceptRequest c window depth s).state := by
  unfold acceptRequest
  split
  · exact .refl s
  · next h =>
    obtain ⟨hringing, hunread, hwindow, hdepth, hfree⟩ := State.acceptRefusal_none h
    refine (State.answerCall_only c (acceptDepth depth) hfree).keeps (fun law => ?_) fun hadmits => ?_
    · have hanswer : (s.ctx c).answerWindow ≤ 32 := by
        obtain ⟨-, -, -, -, -, -, -, -, -, hanswer⟩ := law
        exact hanswer
      rw [State.answerCall, State.enter_ctx, if_pos rfl, State.enter_cells]
      simp only [State.placeAnswer_cells, State.placeAnswer_ctx, State.setCtx_cells, State.ctx_setCtx, if_true,
        State.reserve_cells, State.reserve_ctx]
      exact law.opened (by rw [hringing]; rfl) hunread (acceptWindow_le hwindow hanswer) rfl (BitVec.sub_zero _) rfl
        (acceptDepth_bounds hdepth) (fun h => nomatch h) law.credit_le rfl
    · rw [State.answerCall, State.enter_ctx, if_pos rfl]
      rw [hringing] at hadmits
      exact TrunkState.admits_call hadmits rfl CircuitState.noConfusion CircuitState.noConfusion

theorem refuseRequest_keeps (s : State) (c : CircuitId) : Keeps s (refuseRequest c s).state := by
  unfold refuseRequest
  split
  · exact s.declineCall_keeps c _ _
  · exact .refl s

/-! ## Releasing -/

theorem State.beginRelease_only (s : State) (c : CircuitId) : OnlyCircuit c s (s.beginRelease c) :=
  ((s.setCtx_only c _).trans (State.placeRequest_only _ c _ _ _)).trans (State.enter_only _ c _ _)

theorem State.beginRelease_ctx (s : State) (c : CircuitId) :
    (s.beginRelease c).ctx c = { s.ctx c with quietMarker := false, state := .releasing, lastCause := some .host } := by
  rw [State.beginRelease, State.enter_ctx, if_pos rfl, State.placeRequest_ctx, State.ctx_setCtx, if_pos rfl]

theorem State.beginRelease_law {s : State} {c : CircuitId} (hlive : (s.ctx c).state.isLive = true)
    (law : CircuitLaw (s.ctx c) (s.cells c)) : CircuitLaw ((s.beginRelease c).ctx c) ((s.beginRelease c).cells c) := by
  rw [State.beginRelease_ctx]
  exact law.move ⟨rfl, rfl, rfl, rfl, rfl, rfl, rfl, rfl⟩ hlive rfl (fun h => by simp at h) CircuitState.noConfusion

theorem State.holdRelease_keeps (s : State) (c : CircuitId) : Keeps s (s.holdRelease c) := s.setSlots_keeps c _

theorem hangupQuiet_keeps {s : State} {c : CircuitId} (hquiet : (s.ctx c).state = .quiet) :
    Keeps s (hangupQuiet c s).state := by
  have law := State.beginRelease_law (s := s) (c := c) (by rw [hquiet]; rfl)
  have hawake : ((s.beginRelease c).ctx c).state ≠ .waking := by
    rw [State.beginRelease_ctx]
    exact CircuitState.noConfusion
  unfold hangupQuiet
  split
  case h_1 h | h_2 h =>
    refine (s.beginRelease_only c).keeps law fun _ => ?_
    exact TrunkState.admits_of_ne_waking (by rw [h]; rfl) hawake
  case h_3 h => exact (s.beginRelease_only c).keeps_abandon law hawake (by rw [h]; rfl) _
  case h_4 h =>
    split
    · exact .refl s
    · exact (s.holdRelease_keeps c).trans (State.startRouse_keeps h)
  case h_5 =>
    split
    · exact .refl s
    · exact s.holdRelease_keeps c
  all_goals exact .refl s

theorem hangupRequest_keeps (s : State) (c : CircuitId) : Keeps s (hangupRequest c s).state := by
  have hrelease (h : (s.ctx c).state = .connected ∨ (s.ctx c).state = .quieting) :
      Keeps s (s.beginRelease c) := by
    refine (s.beginRelease_only c).keeps (State.beginRelease_law ?_) fun hadmits => ?_
    · obtain h | h := h <;> rw [h] <;> rfl
    · rw [State.beginRelease_ctx]
      refine TrunkState.admits_call hadmits ?_ ?_ CircuitState.noConfusion <;> obtain h | h := h <;> rw [h] <;> decide
  unfold hangupRequest
  split
  case h_5 => exact s.giveUpDial_keeps c _
  case h_6 h => exact hrelease (.inl h)
  case h_7 h => exact hrelease (.inr h)
  case h_8 h => exact hangupQuiet_keeps h
  case h_9 =>
    unfold hangupWaking
    split
    · exact .refl s
    · exact s.holdRelease_keeps c
  case h_10 h =>
    have hrole : Keeps s (s.setCtx c { s.ctx c with role := none }) :=
      State.setCtx_keeps ⟨rfl, rfl, rfl, rfl, rfl, rfl, rfl, rfl⟩
    refine hrole.trans (State.enter_keeps _ (fun law => ?_) ?_)
    · rw [State.ctx_setCtx, if_pos rfl] at law ⊢
      exact law.rest ⟨rfl, rfl, rfl, rfl, rfl, rfl, rfl, rfl⟩ (by show (s.ctx c).state.isLive = _; rw [h]; rfl) rfl
    · exact fun _ => TrunkState.admits_of_mayNap rfl
  all_goals exact .refl s

/-! ## Barring, quiet, wake, options -/

theorem barRequest_keeps (s : State) (c : CircuitId) : Keeps s (barRequest c s).state := by
  unfold barRequest
  split
  · next h =>
    exact State.enter_keeps _
      (fun law => law.rest ⟨rfl, rfl, rfl, rfl, rfl, rfl, rfl, rfl⟩ (by rw [h]; rfl) rfl)
      fun _ => TrunkState.admits_of_mayNap rfl
  · exact .refl s

theorem unbarRequest_keeps (s : State) (c : CircuitId) : Keeps s (unbarRequest c s).state := by
  unfold unbarRequest
  split
  · next h =>
    exact State.enter_keeps _
      (fun law => law.rest ⟨rfl, rfl, rfl, rfl, rfl, rfl, rfl, rfl⟩ (by rw [h]; rfl) rfl)
      fun _ => TrunkState.admits_of_mayNap rfl
  · exact .refl s

theorem quietRequest_keeps (s : State) (c : CircuitId) : Keeps s (quietRequest c s).state := by
  unfold quietRequest
  split
  · exact .refl s
  · next h =>
    have hconnected : (s.ctx c).state = .connected := by
      simp only [State.quietRefusal, ite_eq_iff, reduceCtorEq, and_false, false_or, and_true] at h
      exact not_not.mp (not_or.mp h.1).1
    show Keeps s (s.askQuiet c)
    unfold State.askQuiet
    extract_lets x u v
    have hmark : Keeps s u := State.setCtx_keeps ⟨rfl, rfl, rfl, rfl, rfl, rfl, rfl, rfl⟩
    have hask : Keeps s v := hmark.trans (u.setSlots_keeps c _)
    have hstate : (v.ctx c).state = .connected := by
      simp only [v, u, State.placeRequest_ctx, State.ctx_setCtx, if_true]
      exact hconnected
    split
    · next hempty =>
      refine hask.trans (State.enter_keeps _ (fun law => ?_) fun hadmits => ?_)
      · exact law.move ⟨rfl, rfl, rfl, rfl, rfl, rfl, rfl, rfl⟩ (by rw [hstate]; rfl) rfl
          (fun _ => List.isEmpty_iff.mp hempty) CircuitState.noConfusion
      · exact TrunkState.admits_call hadmits (by rw [hstate]; rfl) (by rw [hstate]; decide) (by decide)
    · exact hask

/-- A quiet call that goes on in a state that is neither QUIET nor new (R45, R46). -/
theorem CircuitLaw.wakes {x : Context} {y : Cells} {st : CircuitState} (law : CircuitLaw x y)
    (hquiet : x.state = .quiet) (hst : st = .connected ∨ st = .waking) (cause : Option CircuitCause) :
    CircuitLaw { x with state := st, lastCause := cause } y := by
  refine law.move ⟨rfl, rfl, rfl, rfl, rfl, rfl, rfl, rfl⟩ (by rw [hquiet]; rfl) ?_ (fun h => ?_) ?_ <;>
    obtain rfl | rfl := hst <;> simp_all [CircuitState.isLive]

theorem wakeRequest_keeps (s : State) (c : CircuitId) : Keeps s (wakeRequest c s).state := by
  unfold wakeRequest
  split
  · exact .refl s
  · next h =>
    have hquiet : (s.ctx c).state = .quiet := not_not.mp (not_or.mp h).1
    have hnow (hlive : s.link.state.isStill = false) : Keeps s (s.wakeNow c) :=
      (s.setSlots_keeps c _).trans
        (State.enter_keeps _ (fun law => law.wakes hquiet (.inl rfl) _)
          fun _ => TrunkState.admits_of_ne_waking hlive CircuitState.noConfusion)
    have hwaking (hnaps : s.link.state = .nap ∨ s.link.state = .rousing) : Keeps s (s.enter c .waking .host) :=
      State.enter_keeps _ (fun law => law.wakes hquiet (.inr rfl) _)
        fun _ => by obtain hnaps | hnaps := hnaps <;> rw [hnaps] <;> rfl
    split
    case h_1 h | h_2 h => exact hnow (by rw [h]; rfl)
    case h_4 h => exact (hwaking (.inl h)).trans (State.startRouse_keeps h)
    case h_5 h => exact hwaking (.inr h)
    all_goals exact .refl s

theorem optionsRequest_keeps (s : State) (c : CircuitId) (autoQuiet answerWindow : Byte) :
    Keeps s (optionsRequest c autoQuiet answerWindow s).state := by
  unfold optionsRequest
  split
  · split
    · next h =>
      refine (s.setCtx_only c _).keeps (fun law => ?_) fun hadmits => ?_
      · rw [State.ctx_setCtx, if_pos rfl]
        obtain ⟨hlive, hnot, hquiet, hdialing, hleast, hmost, hsend, hreceive, hcredit, -⟩ := law
        exact ⟨hlive, hnot, hquiet, hdialing, hleast, hmost, hsend, hreceive, hcredit, ((isWindow_iff _).mp h).2⟩
      · rw [State.ctx_setCtx, if_pos rfl]
        exact hadmits
    · exact .refl s
  · exact .refl s

/-! ## SEND, FETCH, DISCARD -/

/-- A SEND passes its checks where none of them fails (R57). -/
theorem State.sendRefusal_none {s : State} {c : CircuitId} {payload : Payload} (h : s.sendRefusal c payload = none) :
    s.sendGate c = true ∧ payloadFits payload = true ∧ (s.cells c).sendQueue.length < (s.ctx c).sendDepth
      ∧ 0 < s.pool.free := by
  simp only [State.sendRefusal, ite_eq_iff, reduceCtorEq, and_false, false_or, and_true] at h
  obtain ⟨hgate, hfits, hdepth, hfree⟩ := h
  simp only [Bool.not_eq_true', Bool.not_eq_false] at hgate hfits
  exact ⟨hgate, hfits, not_le.mp hdepth, Nat.pos_of_ne_zero hfree⟩

theorem State.sendGate_state {s : State} {c : CircuitId} (h : s.sendGate c = true) :
    (s.ctx c).state = .connected ∨ (s.ctx c).state = .waking := by
  unfold State.sendGate at h
  cases hs : (s.ctx c).state with
  | connected => exact .inl rfl
  | waking => exact .inr rfl
  | _ =>
    rw [hs] at h
    cases h

theorem CircuitLaw.queued {x : Context} {y : Cells} (law : CircuitLaw x y)
    (hstate : x.state = .connected ∨ x.state = .waking) (hroom : y.sendQueue.length < x.sendDepth) (payload : Payload) :
    CircuitLaw x { y with sendQueue := y.sendQueue ++ [payload] } := by
  obtain ⟨hlive, -, -, -, hleast, hmost, -, hrest⟩ := law
  refine ⟨hlive, fun h => ?_, fun h => ?_, fun h => ?_, hleast, hmost, ?_, hrest⟩
  · obtain hs | hs := hstate <;> exact absurd h (by simp [hs, CircuitState.isLive])
  · obtain hs | hs := hstate <;> exact absurd h (by simp [hs])
  · obtain hs | hs := hstate <;> exact absurd h (by simp [hs])
  · rw [List.length_append, List.length_singleton]
    exact hroom

theorem sendRequest_keeps (s : State) (c : CircuitId) (payload : Payload) :
    Keeps s (sendRequest c payload s).state := by
  unfold sendRequest
  split
  · exact Keeps.ite (fun _ => State.setCtx_keeps ⟨rfl, rfl, rfl, rfl, rfl, rfl, rfl, rfl⟩) fun _ => .refl s
  · next h =>
    obtain ⟨hgate, -, hroom, hfree⟩ := State.sendRefusal_none h
    have honly : OnlyCircuit c s (s.queuePayload c payload) := by
      refine s.setCells_only c _ (s.pool.free - 1) s.pool.lostCells ?_
      rw [State.cellsOf]
      show s.pool.free - 1
        + ((s.cells c).reserved + (s.cells c).receiveQueue.length + ((s.cells c).sendQueue ++ [payload]).length) = _
      rw [List.length_append, List.length_singleton]
      omega
    refine honly.keeps (fun law => ?_) id
    rw [State.queuePayload, State.cells_setCells, if_pos rfl]
    exact law.queued (State.sendGate_state hgate) hroom payload

/-- Cells that leave a live call's receive queue for its reservation, with G raised by as many (R66). -/
theorem CircuitLaw.fetched {x : Context} {y : Cells} {n : Nat} (law : CircuitLaw x y) (hlive : x.state.isLive = true)
    (hpos : 0 < n) (hn : n ≤ y.receiveQueue.length) :
    CircuitLaw { x with granted := x.granted + count8 n }
      { y with receiveQueue := y.receiveQueue.drop n, reserved := y.reserved + n } := by
  obtain ⟨hcall, -, hquiet, hdialing, hleast, hmost, hsend, hreceive, hrest⟩ := law
  obtain ⟨hwindow, hlimit, hgranted⟩ := hcall hlive
  have hsum : y.reserved + n + (y.receiveQueue.drop n).length = y.reserved + y.receiveQueue.length := by
    rw [List.length_drop]
    omega
  refine ⟨fun _ => ⟨by rw [hsum]; exact hwindow, by rw [hsum]; exact hlimit, ?_⟩, fun h => ?_, hquiet, fun h => ?_,
    hleast, hmost, hsend, ?_, hrest⟩
  · show x.granted + count8 n - x.receivedCount = count8 (y.reserved + n)
    have hraised : count8 (y.reserved + n) = x.granted - x.receivedCount + count8 n := by
      rw [hgranted, count8, count8, count8, BitVec.ofNat_add]
    rw [hraised]
    bv_omega
  · exact absurd (hlive.symm.trans h) Bool.true_eq_false.mp
  · rw [(hdialing h).2.1] at hn
    exact absurd (hpos.trans_le hn) (Nat.lt_irrefl 0)
  · rw [List.length_drop]
    omega

theorem CircuitLaw.dropped {x : Context} {y : Cells} (law : CircuitLaw x y) (hlive : x.state.isLive = false) (n : Nat) :
    CircuitLaw x { y with receiveQueue := y.receiveQueue.drop n } := by
  rw [circuitLaw_of_not_live hlive] at law ⊢
  obtain ⟨hnone, hleast, hmost, hreceive, hrest⟩ := law
  refine ⟨hnone, hleast, hmost, ?_, hrest⟩
  rw [List.length_drop]
  omega

theorem State.receiveQueueEmpty_keeps (s : State) (c : CircuitId) :
    Keeps s { s with notices := s.notices.receiveQueueEmpty c } :=
  .of_same ⟨⟨rfl, rfl, id⟩, rfl, rfl, fun law => law.receiveQueueEmpty c⟩ ⟨rfl, rfl, rfl, rfl, rfl, rfl⟩
    ⟨rfl, fun _ => rfl, fun _ => .refl _⟩

/-- Cells taken from a live call's receive queue (R66). -/
def State.fetchedLive (s : State) (c : CircuitId) (n : Nat) : State :=
  State.placeCredit
    ((s.setCells c
      { s.cells c with
        receiveQueue := (s.cells c).receiveQueue.drop n, reserved := (s.cells c).reserved + n }).setCtx c
      { s.ctx c with granted := (s.ctx c).granted + count8 n }) c

theorem State.removeReceived_eq (s : State) (c : CircuitId) (n : Nat) :
    s.removeReceived c n
      = let u :=
          if (s.ctx c).state.isLive = true then s.fetchedLive c n
          else (s.setCells c { s.cells c with receiveQueue := (s.cells c).receiveQueue.drop n }).releaseCells n
        if ((s.cells c).receiveQueue.drop n).isEmpty then { u with notices := u.notices.receiveQueueEmpty c }
        else u := by
  unfold State.removeReceived State.fetchedLive
  simp only [State.cells_setCells, if_true, State.setCells_setCells, State.setCells_ctx]

theorem State.fetchedLive_keeps {s : State} {c : CircuitId} {n : Nat} (hlive : (s.ctx c).state.isLive = true)
    (hpos : 0 < n) (hn : n ≤ (s.cells c).receiveQueue.length) : Keeps s (s.fetchedLive c n) := by
  have hcells := s.setCells_only c
    { s.cells c with receiveQueue := (s.cells c).receiveQueue.drop n, reserved := (s.cells c).reserved + n }
    s.pool.free s.pool.lostCells (by
      rw [State.cellsOf]
      show s.pool.free + ((s.cells c).reserved + n + ((s.cells c).receiveQueue.drop n).length
        + (s.cells c).sendQueue.length) = _
      rw [List.length_drop]
      omega)
  refine ((hcells.trans (State.setCtx_only _ c _)).trans (State.setSlots_only _ c c _)).keeps (fun law => ?_) ?_
  · simp only [State.setSlots_ctx, State.setSlots_cells, State.setCtx_cells, State.ctx_setCtx, State.cells_setCells,
      if_true]
    exact law.fetched hlive hpos hn
  · simp only [State.setSlots_ctx, State.ctx_setCtx, if_true]
    exact id

/-- A circuit that gives back `n` of its cells. -/
theorem State.releaseCells_only {c : CircuitId} {s : State} {y : Cells} {n : Nat}
    (h : y.reserved + y.receiveQueue.length + y.sendQueue.length + n = s.cellsOf c) :
    OnlyCircuit c s ((s.setCells c y).releaseCells n) := by
  have hset : SameRest s (s.setCells c y) ∧ SameTrunk s (s.setCells c y) :=
    ⟨⟨⟨rfl, rfl, id⟩, rfl, rfl, id⟩, ⟨rfl, rfl, rfl, rfl, rfl, rfl⟩⟩
  refine ⟨hset.1.trans (State.releaseCells_rest _ n), hset.2.trans (State.releaseCells_trunk _ n),
    fun d _ => State.releaseCells_sameCall (s.setCells c y) n d, fun d hd => ?_, ?_⟩
  · rw [State.releaseCells_cells, State.cells_setCells, if_neg hd]
  · rw [State.cellsOf, State.releaseCells_cells, State.cells_setCells, if_pos rfl, State.releaseCells_free, ← h]
    show s.pool.free + n + _ = _
    omega

theorem State.droppedFree_keeps {s : State} {c : CircuitId} {n : Nat} (hlive : (s.ctx c).state.isLive = false)
    (hn : n ≤ (s.cells c).receiveQueue.length) :
    Keeps s
      ((s.setCells c { s.cells c with receiveQueue := (s.cells c).receiveQueue.drop n }).releaseCells n) := by
  have hctx := State.releaseCells_sameCall
    (s.setCells c { s.cells c with receiveQueue := (s.cells c).receiveQueue.drop n }) n c
  refine (State.releaseCells_only ?_).keeps (fun law => ?_) fun hadmits => ?_
  · rw [State.cellsOf]
    show (s.cells c).reserved + ((s.cells c).receiveQueue.drop n).length + (s.cells c).sendQueue.length + n = _
    rw [List.length_drop]
    omega
  · rw [State.releaseCells_cells, State.cells_setCells, if_pos rfl]
    exact (law.dropped hlive n).of_sameCall hctx
  · rw [hctx.state]
    exact hadmits

theorem State.removeReceived_keeps {s : State} {c : CircuitId} {n : Nat} (hpos : 0 < n)
    (hn : n ≤ (s.cells c).receiveQueue.length) : Keeps s (s.removeReceived c n) := by
  rw [State.removeReceived_eq]
  extract_lets rest u
  have hu : Keeps s u := Keeps.ite (fun hlive => State.fetchedLive_keeps hlive hpos hn) fun hlive =>
    State.droppedFree_keeps (Bool.not_eq_true _ ▸ hlive) hn
  exact Keeps.ite (fun _ => hu.trans (u.receiveQueueEmpty_keeps c)) fun _ => hu

theorem fetchRequest_keeps (s : State) (c : CircuitId) : Keeps s (fetchRequest c s).state := by
  unfold fetchRequest
  split
  · exact .refl s
  · next h =>
    refine State.removeReceived_keeps Nat.one_pos ?_
    rw [h, List.length_cons]
    omega

theorem discardRequest_keeps (s : State) (c : CircuitId) (choice : Byte) :
    Keeps s (discardRequest c choice s).state := by
  unfold discardRequest
  split
  · exact .refl s
  · next n hcount =>
    split
    · exact .refl s
    · next hempty =>
      have hpos : 0 < (s.cells c).receiveQueue.length := by
        rwa [List.length_pos_iff, ne_eq, ← List.isEmpty_iff]
      unfold discardCount at hcount
      split at hcount
      · cases hcount
        exact State.removeReceived_keeps Nat.one_pos hpos
      · rw [Option.ite_none_right_eq_some] at hcount
        obtain ⟨-, hcount⟩ := hcount
        cases hcount
        exact State.removeReceived_keeps hpos le_rfl

/-! ## Notices, parameters, counters, the trunk -/

theorem State.setNotices_keeps {s : State} {n : NoticeUnit} (h : s.notices.Lawful → n.Lawful) :
    Keeps s { s with notices := n } :=
  .of_same ⟨⟨rfl, rfl, id⟩, rfl, rfl, h⟩ ⟨rfl, rfl, rfl, rfl, rfl, rfl⟩ ⟨rfl, fun _ => rfl, fun _ => .refl _⟩

theorem maskRequest_keeps (s : State) (source kind setting : Byte) :
    Keeps s (maskRequest source kind setting s).state := by
  unfold maskRequest
  split
  · next on _ _ =>
    refine State.setNotices_keeps fun law => ?_
    cases on with
    | true => exact law.setMask_on _
    | false => exact law.setMask_off _
  · exact .refl s

theorem dismissRequest_keeps (s : State) (source kind : Byte) : Keeps s (dismissRequest source kind s).state := by
  unfold dismissRequest
  split
  · exact State.setNotices_keeps fun law => law.forget_refill _
  · exact .refl s

theorem LinkController.restartTimer_state (l : LinkController) (k : StateTimerKind) (v : Nat) :
    (l.restartTimer k v).state = l.state := by
  unfold LinkController.restartTimer
  split
  · split <;> rfl
  · rfl

theorem LinkController.restartTimer_kind (l : LinkController) (k : StateTimerKind) (v : Nat) :
    (l.restartTimer k v).stateTimer.map (·.kind) = l.stateTimer.map (·.kind) := by
  unfold LinkController.restartTimer
  split
  · next t h =>
    split
    · next hk => rw [h, ← hk]; rfl
    · rfl
  · rfl

theorem restarted_isSome (timer : Option Nat) (v : Nat) : (restarted timer v).isSome = timer.isSome :=
  Option.isSome_map

/-- A timer that restarts is no matter of the laws. -/
theorem State.restartTimers_keeps (s : State) (p : Param) (v : Nat) : Keeps s (s.restartTimers p v) := by
  have hlink (k : StateTimerKind) : Keeps s { s with link := s.link.restartTimer k v } :=
    .of_same ⟨⟨rfl, rfl, id⟩, rfl, rfl, id⟩
      ⟨s.link.restartTimer_state k v, s.link.restartTimer_kind k v, rfl, rfl, rfl, rfl⟩
      ⟨rfl, fun _ => rfl, fun _ => .refl _⟩
  have hcalls (f : Context → Context) (hf : ∀ x : Context, x.SameCall (f x)) :
      Keeps s { s with circuits := s.circuits.map f } :=
    .of_same ⟨⟨rfl, rfl, id⟩, rfl, rfl, id⟩ ⟨rfl, rfl, rfl, rfl, rfl, rfl⟩ ⟨rfl, fun _ => rfl, fun c => by
      show (s.ctx c).SameCall ((s.circuits.map f).get c)
      rw [PerCircuit.get_map]
      exact hf _⟩
  cases p with
  | ackTimeout =>
    exact .of_same ⟨⟨rfl, rfl, id⟩, rfl, rfl, id⟩ ⟨rfl, rfl, rfl, rfl, rfl, restarted_isSome _ v⟩
      ⟨rfl, fun _ => rfl, fun _ => .refl _⟩
  | errorWindow | helloInterval =>
    exact .of_same ⟨⟨rfl, rfl, id⟩, rfl, rfl, id⟩ ⟨rfl, rfl, rfl, rfl, rfl, rfl⟩ ⟨rfl, fun _ => rfl, fun _ => .refl _⟩
  | retuneTimeout | faultHold | trainTimeout | napAskTimeout | rouseTimeout | closeTimeout => exact hlink _
  | dialTimeout =>
    refine hcalls _ fun x => ?_
    unfold Context.restartDial
    split <;> exact ⟨rfl, rfl, rfl, rfl, rfl, rfl, rfl, rfl⟩
  | ringTimeout =>
    refine hcalls _ fun x => ?_
    unfold Context.restartRing
    split <;> exact ⟨rfl, rfl, rfl, rfl, rfl, rfl, rfl, rfl⟩
  | quietHoldoff => exact hcalls _ fun x => ⟨rfl, rfl, rfl, rfl, rfl, rfl, rfl, rfl⟩
  | replayLimit | errorThreshold | retuneLimit | autoFollow => exact .refl s

theorem setRequest_keeps (s : State) (number low high : Byte) : Keeps s (setRequest number low high s).state := by
  unfold setRequest
  split
  · split
    · refine Keeps.ite (t := s) (fun _ => .refl s) fun _ => ?_
      refine Keeps.trans ?_ (State.restartTimers_keeps _ _ _)
      exact .of_same ⟨⟨rfl, rfl, id⟩, rfl, rfl, id⟩ ⟨rfl, rfl, rfl, rfl, rfl, rfl⟩
        ⟨rfl, fun _ => rfl, fun _ => .refl _⟩
    · exact .refl s
  · exact .refl s

theorem countersRequest_keeps (s : State) (flag : Byte) : Keeps s (countersRequest flag s).state := by
  unfold countersRequest
  split
  · refine Keeps.ite (fun _ => ?_) fun _ => .refl s
    exact .of_same ⟨⟨rfl, rfl, id⟩, rfl, rfl, id⟩ ⟨rfl, rfl, rfl, rfl, rfl, rfl⟩ ⟨rfl, fun _ => rfl, fun _ => .refl _⟩
  · exact .refl s

theorem trunkUpRequest_keeps (s : State) : Keeps s (trunkUpRequest s).state := by
  unfold trunkUpRequest
  split
  case h_1 h => exact State.enterTraining_keeps _ _ (.inl h)
  case h_2 h =>
    split
    · exact State.enterTraining_keeps _ _ (.inr h)
    · exact .refl s
  all_goals exact .refl s

theorem trunkDownRequest_keeps (s : State) : Keeps s (trunkDownRequest s).state := by
  unfold trunkDownRequest
  split
  case h_6 h => exact State.enterDown_keeps _ (.inr (.inl h))
  case h_7 h =>
    split
    · exact State.enterDown_keeps _ (.inr (.inr (.inr h)))
    · exact .refl s
  case h_8 | h_9 => exact .refl s
  all_goals exact s.enterClosing_keeps

theorem napRequest_keeps (s : State) : Keeps s (napRequest s).state := by
  unfold napRequest
  split
  · exact .refl s
  · next h =>
    simp only [State.napRefusal, ite_eq_iff, reduceCtorEq, and_false, false_or, and_true] at h
    obtain ⟨-, -, hquiet, hentries, -⟩ := h
    simp only [Bool.or_eq_true, not_or, Bool.not_eq_true', Bool.not_eq_false, List.isEmpty_iff] at hquiet hentries
    exact State.enterNapAsking_keeps hquiet.1 hentries

/-- Every request keeps the laws. -/
theorem handRequest_keeps (s : State) (r : Request) : Keeps s (handRequest s r).state := by
  have hcircuit (b : Byte) (f : CircuitId → Taken) (hf : ∀ c, Keeps s (f c).state) :
      Keeps s (withCircuit b s f).state := by
    unfold withCircuit
    split
    · exact hf _
    · exact .refl s
  cases r with
  | trunkUp => exact trunkUpRequest_keeps s
  | trunkDown => exact trunkDownRequest_keeps s
  | retune =>
    show Keeps s (retuneRequest s).state
    unfold retuneRequest
    split
    · next h => exact State.retuneCause_keeps (fun _ => by rw [h]; decide) _ _
    · exact .refl s
  | nap => exact napRequest_keeps s
  | rouse =>
    show Keeps s (rouseRequest s).state
    unfold rouseRequest
    split
    · next h => exact State.startRouse_keeps h
    · exact .refl s
  | dial b w d => exact hcircuit b _ fun c => dialRequest_keeps s c w d
  | accept b w d => exact hcircuit b _ fun c => acceptRequest_keeps s c w d
  | refuse b => exact hcircuit b _ fun c => refuseRequest_keeps s c
  | hangup b => exact hcircuit b _ fun c => hangupRequest_keeps s c
  | bar b => exact hcircuit b _ fun c => barRequest_keeps s c
  | unbar b => exact hcircuit b _ fun c => unbarRequest_keeps s c
  | quiet b => exact hcircuit b _ fun c => quietRequest_keeps s c
  | wake b => exact hcircuit b _ fun c => wakeRequest_keeps s c
  | options b a w => exact hcircuit b _ fun c => optionsRequest_keeps s c a w
  | circuitStatus b => exact hcircuit b _ fun _ => .refl s
  | send b payload => exact hcircuit b _ fun c => sendRequest_keeps s c payload
  | fetch b => exact hcircuit b _ fun c => fetchRequest_keeps s c
  | discard b choice => exact hcircuit b _ fun c => discardRequest_keeps s c choice
  | poll => exact State.setNotices_keeps State.polled_lawful
  | mask source kind setting => exact maskRequest_keeps s source kind setting
  | dismiss source kind => exact dismissRequest_keeps s source kind
  | set number low high => exact setRequest_keeps s number low high
  | counters flag => exact countersRequest_keeps s flag
  | ident =>
    exact .of_same ⟨⟨rfl, rfl, id⟩, rfl, rfl, id⟩ ⟨rfl, rfl, rfl, rfl, rfl, rfl⟩ ⟨rfl, fun _ => rfl, fun _ => .refl _⟩
  | restart =>
    exact .of_same ⟨⟨rfl, rfl, fun _ h => nomatch h⟩, rfl, rfl, id⟩ ⟨rfl, rfl, rfl, rfl, rfl, rfl⟩
      ⟨rfl, fun _ => rfl, fun _ => .refl _⟩
  | trunkStatus => exact .refl s
  | get number =>
    show Keeps s (getRequest number s).state
    unfold getRequest
    split <;> exact .refl s

end Sys2Proof.Machine
end

section
/-!
SUPPORT. What arrives on the trunk, and the timers: what each leaves of the laws.
-/

namespace Sys2Proof.Machine

/-! ## Call words (R12 to R21, R25 to R27) -/

theorem State.countBadWord_keeps (s : State) : Keeps s s.countBadWord :=
  .of_same ⟨⟨rfl, rfl, id⟩, rfl, rfl, id⟩ ⟨rfl, rfl, rfl, rfl, rfl, rfl⟩ ⟨rfl, fun _ => rfl, fun _ => .refl _⟩

/-- The call a circuit rings for, before a nap ask is abandoned (R14). -/
def State.rung (s : State) (c : CircuitId) (k window : Byte) (cause : CircuitCause) : State :=
  State.enter
    (s.setCtx c
      { s.ctx c with
        callNumber := k, role := some .callee, window := none, creditLimit := window, sentCount := 0, granted := 0
        receivedCount := 0, timer := .ring s.port.parameters.ringTimeout })
    c .ringing cause

theorem State.ring_eq (s : State) (c : CircuitId) (k window : Byte) (cause : CircuitCause) :
    s.ring c k window cause = (s.rung c k window cause).abandonNapAsk .peer := rfl

/-- A circuit rings with nothing reserved and nothing queued to send. -/
theorem OnlyCircuit.rings {c : CircuitId} {s v : State} {k window : Byte} (h : OnlyCircuit c s v)
    (hcells : CircuitLaw (s.ctx c) (s.cells c) → v.cells c = { s.cells c with sendQueue := [], reserved := 0 })
    (hdepth : (v.ctx c).sendDepth = (s.ctx c).sendDepth) (hanswer : (v.ctx c).answerWindow = (s.ctx c).answerWindow)
    (hwindow : isWindow window = true) (hnaps : s.link.state.isNapping = false) (cause : CircuitCause) :
    Keeps s (v.ring c k window cause) := by
  rw [State.ring_eq]
  have hctx : (v.rung c k window cause).ctx c
      = { v.ctx c with
          callNumber := k, role := some .callee, window := none, creditLimit := window, sentCount := 0, granted := 0
          receivedCount := 0, timer := .ring v.port.parameters.ringTimeout, state := .ringing
          lastCause := some cause } := by
    rw [State.rung, State.enter_ctx, if_pos rfl, State.ctx_setCtx, if_pos rfl]
  refine ((h.trans (State.setCtx_only v c _)).trans (State.enter_only _ c _ cause)).keeps_abandon (fun law => ?_) ?_
    hnaps _
  · show CircuitLaw ((v.rung c k window cause).ctx c) (v.cells c)
    rw [hctx]
    refine law.ended rfl (hcells law) hdepth hanswer ?_
    rw [isWindow_iff] at hwindow
    simpa [Context.credit] using hwindow.2
  · show ((v.rung c k window cause).ctx c).state ≠ .waking
    rw [hctx]
    exact CircuitState.noConfusion

theorem CircuitLaw.cells_of_not_live {x : Context} {y : Cells} (law : CircuitLaw x y) (h : x.state.isLive = false) :
    y = { y with sendQueue := [], reserved := 0 } := by
  obtain ⟨-, hnone, -⟩ := law
  obtain ⟨hreserved, hsend⟩ := hnone h
  rw [← hreserved, ← hsend]

theorem State.closeDown_ring_keeps {s : State} {c : CircuitId} {k window : Byte} (hwindow : isWindow window = true)
    (hnaps : s.link.state.isNapping = false) (cause : CircuitCause) :
    Keeps s ((s.closeDown c false).ring c k window cause) :=
  (s.closeDown_only c false).rings (fun _ => s.closeDown_cells c false) (s.closeDown_sendDepth c false)
    (s.closeDown_answerWindow c false) hwindow hnaps cause

theorem incomingDial_keeps (k window : Byte) (c : CircuitId) {s : State} (hnaps : s.link.state.isNapping = false) :
    Keeps s (incomingDial k window c s) := by
  unfold incomingDial
  split
  · next hwindow =>
    unfold State.takeDial
    split
    case h_1 h =>
      exact (OnlyCircuit.refl c s).rings (fun law => law.cells_of_not_live (by rw [h]; rfl)) rfl rfl hwindow hnaps _
    case h_2 =>
      split
      · exact .refl s
      · exact State.closeDown_ring_keeps hwindow hnaps _
    case h_9 | h_10 => exact s.setSlots_keeps c _
    all_goals exact Keeps.ite (fun _ => .refl s) fun _ => State.closeDown_ring_keeps hwindow hnaps _
  · exact s.countBadWord_keeps

theorem incomingAnswer_keeps (k window : Byte) (c : CircuitId) (s : State) :
    Keeps s (incomingAnswer k window c s) := by
  unfold incomingAnswer State.takeAnswer
  refine Keeps.ite (fun hwindow => Keeps.ite (fun _ => Keeps.ite (fun hdialing => ?_) fun _ => .refl s)
    fun _ => s.setSlots_keeps c _) fun _ => s.countBadWord_keeps
  refine ((s.setCtx_only c _).trans (State.enter_only _ c _ _)).keeps (fun law => ?_) fun hadmits => ?_
  · rw [State.enter_ctx, if_pos rfl, State.enter_cells, State.ctx_setCtx, if_pos rfl]
    obtain ⟨hlive, -, -, hnew, hleast, hmost, hsend, hreceive, -, hanswer⟩ := law
    obtain ⟨hsent, -, -⟩ := hnew hdialing
    refine ⟨fun _ => hlive (by rw [hdialing]; rfl), fun h => (nomatch h), fun h => ?_, fun h => (nomatch h), hleast,
      hmost,
      hsend, hreceive, ?_, hanswer⟩
    · simp at h
    · rw [isWindow_iff] at hwindow
      simpa [Context.credit, hsent] using hwindow.2
  · rw [State.enter_ctx, if_pos rfl]
    rw [hdialing] at hadmits
    exact TrunkState.admits_call hadmits rfl CircuitState.noConfusion CircuitState.noConfusion

theorem incomingReject_keeps (k reason : Byte) (c : CircuitId) (s : State) :
    Keeps s (incomingReject k reason c s) := by
  unfold incomingReject
  split
  · exact s.countBadWord_keeps
  · exact Keeps.ite (fun _ => s.closeDown_idle_keeps c _) fun _ => .refl s

theorem incomingHang_keeps (k : Byte) (c : CircuitId) (s : State) : Keeps s (incomingHang k c s) := by
  unfold incomingHang
  split
  · split
    case h_8 | h_9 | h_10 => exact .refl s
    all_goals exact s.hungUp_keeps c _ _
  · exact .refl s

theorem incomingHangDone_keeps (k : Byte) (c : CircuitId) (s : State) : Keeps s (incomingHangDone k c s) :=
  Keeps.ite (fun _ => s.hungUp_keeps c _ _) fun _ => .refl s

/-! ## Quiet words (R39 to R42, R46) -/

/-- A call with an empty send queue becomes QUIET. -/
theorem State.enter_quiet_keeps {s : State} {c : CircuitId} (cause : CircuitCause)
    (hlive : (s.ctx c).state.isLive = true)
    (hqueue : CircuitLaw (s.ctx c) (s.cells c) → (s.cells c).sendQueue = []) : Keeps s (s.enter c .quiet cause) :=
  State.enter_keeps _
    (fun law => law.move ⟨rfl, rfl, rfl, rfl, rfl, rfl, rfl, rfl⟩ hlive rfl (fun _ => hqueue law)
      CircuitState.noConfusion)
    fun _ => TrunkState.admits_of_mayNap rfl

theorem CircuitLaw.quieting_queue {x : Context} {y : Cells} (law : CircuitLaw x y) (h : x.state = .quieting) :
    y.sendQueue = [] := by
  obtain ⟨-, -, hquiet, -⟩ := law
  exact hquiet (.inl h)

/-- QUIET-OK given: the answer is placed and the quiet fields clear; only the circuit's state can be the laws' matter
(R39). -/
theorem State.agreeQuiet_keeps {s : State} {c : CircuitId} {k : Byte}
    (hstate : (s.ctx c).state = .quieting ∨ (s.ctx c).state = .quiet ∨ (s.ctx c).state = .connected)
    (hqueue : (s.ctx c).state = .connected → (s.cells c).sendQueue = []) : Keeps s (s.agreeQuiet c k) := by
  unfold State.agreeQuiet
  extract_lets t x u l v
  have ht : Keeps s t := s.setSlots_keeps c _
  have hu : Keeps t u := State.setCtx_keeps ⟨rfl, rfl, rfl, rfl, rfl, rfl, rfl, rfl⟩
  have hctx : (u.ctx c).state = (s.ctx c).state := by
    simp only [u, State.ctx_setCtx, if_true]
    rfl
  have hv : Keeps u v ∧ (v.ctx c).state = (s.ctx c).state ∧ v.cells c = s.cells c := by
    dsimp only [v]
    split
    · exact ⟨u.setSlots_keeps c _, hctx, rfl⟩
    · exact ⟨.refl u, hctx, rfl⟩
  obtain ⟨hkeeps, hvctx, hvcells⟩ := hv
  refine ((ht.trans hu).trans hkeeps).trans (Keeps.ite (fun _ => .refl v) fun hnot => ?_)
  rw [hvctx] at hnot
  refine State.enter_quiet_keeps _ ?_ fun law => ?_
  · rw [hvctx]
    obtain h | h | h := hstate <;> rw [h] <;> rfl
  · obtain h | h | h := hstate
    · exact law.quieting_queue (hvctx.trans h)
    · exact absurd h hnot
    · rw [hvcells]
      exact hqueue h

theorem State.refuseQuiet_keeps (s : State) (c : CircuitId) (k : Byte) : Keeps s (s.refuseQuiet c k) := by
  have hanswer : Keeps s (s.placeAnswer c .quietRefuse k) := s.setSlots_keeps c _
  exact hanswer.trans (State.setCtx_keeps ⟨rfl, rfl, rfl, rfl, rfl, rfl, rfl, rfl⟩)

theorem incomingQuietAsk_keeps (k : Byte) (c : CircuitId) (s : State) : Keeps s (incomingQuietAsk k c s) := by
  unfold incomingQuietAsk
  split
  · split
    case h_1 h => exact State.agreeQuiet_keeps (.inl h) fun h' => absurd (h.symm.trans h') (by decide)
    case h_2 h => exact State.agreeQuiet_keeps (.inr (.inl h)) fun h' => absurd (h.symm.trans h') (by decide)
    case h_3 h =>
      refine Keeps.ite (fun hagrees => State.agreeQuiet_keeps (.inr (.inr h)) fun _ => ?_) fun _ =>
        s.refuseQuiet_keeps c k
      rw [State.agreesToQuiet, Bool.and_eq_true, List.isEmpty_iff] at hagrees
      exact hagrees.1
    all_goals exact .refl s
  · exact .refl s

theorem incomingQuietOk_keeps (k : Byte) (c : CircuitId) (s : State) : Keeps s (incomingQuietOk k c s) := by
  refine Keeps.ite (fun h => ?_) fun _ => .refl s
  have hmark : Keeps s (s.setCtx c { s.ctx c with quietMarker := false }) :=
    State.setCtx_keeps ⟨rfl, rfl, rfl, rfl, rfl, rfl, rfl, rfl⟩
  have hstate : ((s.setCtx c { s.ctx c with quietMarker := false }).ctx c).state = .quieting := by
    rw [State.ctx_setCtx, if_pos rfl]
    exact h.2
  exact hmark.trans (State.enter_quiet_keeps _ (by rw [hstate]; rfl) fun law => law.quieting_queue hstate)

theorem incomingQuietRefuse_keeps (k : Byte) (c : CircuitId) (s : State) :
    Keeps s (incomingQuietRefuse k c s) := by
  refine Keeps.ite (fun h => ?_) fun _ => .refl s
  refine ((s.setCtx_only c _).trans (State.enter_only _ c _ _)).keeps (fun law => ?_) fun hadmits => ?_
  · rw [State.enter_ctx, if_pos rfl, State.enter_cells, State.ctx_setCtx, if_pos rfl]
    exact law.move ⟨rfl, rfl, rfl, rfl, rfl, rfl, rfl, rfl⟩ (by rw [h.2]; rfl) rfl (fun h => by simp at h)
      CircuitState.noConfusion
  · rw [State.enter_ctx, if_pos rfl]
    rw [h.2] at hadmits
    exact TrunkState.admits_call hadmits rfl CircuitState.noConfusion CircuitState.noConfusion

theorem incomingWake_keeps (k : Byte) (c : CircuitId) {s : State} (hnaps : s.link.state.isNapping = false) :
    Keeps s (incomingWake k c s) := by
  refine Keeps.ite (fun h => ?_) fun _ => .refl s
  refine (s.enter_only c _ _).keeps_abandon (fun law => ?_) ?_ hnaps _
  · rw [State.enter_ctx, if_pos rfl]
    exact law.wakes h.2 (.inl rfl) _
  · rw [State.enter_ctx, if_pos rfl]
    exact CircuitState.noConfusion

/-! ## The Buffer Manager's cells (R62 to R64, R71) -/

theorem incomingCredit_keeps (k count : Byte) (c : CircuitId) (s : State) : Keeps s (incomingCredit k count c s) := by
  unfold incomingCredit
  refine Keeps.ite (fun htakes => Keeps.ite (fun hcredit => ?_) fun _ => s.countBadWord_keeps) fun _ => .refl s
  refine (s.setCtx_only c _).keeps (fun law => ?_) fun hadmits => ?_
  · rw [State.ctx_setCtx, if_pos rfl]
    obtain ⟨hlive, hnot, hquiet, hdialing, hleast, hmost, hsend, hreceive, -, hanswer⟩ := law
    exact ⟨hlive, hnot, hquiet, hdialing, hleast, hmost, hsend, hreceive, hcredit, hanswer⟩
  · rw [State.ctx_setCtx, if_pos rfl]
    exact hadmits

/-- A data cell that takes a reserved cell of a live call (R62). -/
theorem CircuitLaw.arrived {x : Context} {y : Cells} (law : CircuitLaw x y) (hlive : x.state.isLive = true)
    (hdialing : x.state ≠ .dialing) (hreserved : y.reserved ≠ 0) (payload : Payload) :
    CircuitLaw { x with receivedCount := x.receivedCount + 1 }
      { y with receiveQueue := y.receiveQueue ++ [payload], reserved := y.reserved - 1 } := by
  obtain ⟨hcall, -, hquiet, -, hleast, hmost, hsend, -, hrest⟩ := law
  obtain ⟨hwindow, hlimit, hgranted⟩ := hcall hlive
  have hsum : y.reserved - 1 + (y.receiveQueue ++ [payload]).length = y.reserved + y.receiveQueue.length := by
    rw [List.length_append, List.length_singleton]
    omega
  refine ⟨fun _ => ⟨by rw [hsum]; exact hwindow, by rw [hsum]; exact hlimit, ?_⟩, fun h => ?_, hquiet,
    fun h => absurd h hdialing, hleast, hmost, hsend, ?_, hrest⟩
  · show x.granted - (x.receivedCount + 1) = count8 (y.reserved - 1)
    have hpred : count8 y.reserved = count8 (y.reserved - 1) + 1 := by
      rw [← Nat.sub_add_cancel (Nat.pos_of_ne_zero hreserved), count8, BitVec.ofNat_add, Nat.add_sub_cancel]
      rfl
    rw [hpred] at hgranted
    bv_omega
  · exact absurd (hlive.symm.trans h) Bool.true_eq_false.mp
  · show (y.receiveQueue ++ [payload]).length ≤ 32
    omega

theorem State.acceptData_keeps {s : State} {c : CircuitId} (hlive : (s.ctx c).state.isLive = true)
    (hdialing : (s.ctx c).state ≠ .dialing) (hreserved : (s.cells c).reserved ≠ 0) (payload : Payload) :
    Keeps s (s.acceptData c payload) := by
  have hcells := s.setCells_only c
    { s.cells c with
      receiveQueue := (s.cells c).receiveQueue ++ [payload], reserved := (s.cells c).reserved - 1 }
    s.pool.free s.pool.lostCells (by
      rw [State.cellsOf]
      show s.pool.free + ((s.cells c).reserved - 1 + ((s.cells c).receiveQueue ++ [payload]).length
        + (s.cells c).sendQueue.length) = _
      rw [List.length_append, List.length_singleton]
      omega)
  refine ((hcells.trans (State.setCtx_only _ c _)).trans (State.report_only _ c _)).keeps (fun law => ?_) ?_
  · simp only [State.report_ctx, State.report_cells, State.setCtx_cells, State.ctx_setCtx, State.cells_setCells,
      if_true]
    exact law.arrived hlive hdialing hreserved payload
  · simp only [State.report_ctx, State.ctx_setCtx, if_true]
    exact id

theorem State.discardStale_keeps (s : State) : Keeps s s.discardStale :=
  .of_same ⟨⟨rfl, rfl, id⟩, rfl, rfl, id⟩ ⟨rfl, rfl, rfl, rfl, rfl, rfl⟩ ⟨rfl, fun _ => rfl, fun _ => .refl _⟩

/-- The state with the dropped payload of an overrun counted (R63). -/
def State.countLost (s : State) : State :=
  { s with pool := { s.pool with lostCells := addToCounter s.pool.lostCells 1 } }

theorem State.overrun_keeps {s : State} (c : CircuitId) (hnaps : s.link.state.isNapping = false) :
    Keeps s (s.overrun c) := by
  have hcount : Keeps s s.countLost :=
    .of_same ⟨⟨rfl, rfl, id⟩, rfl, rfl, id⟩ ⟨rfl, rfl, rfl, rfl, rfl, rfl⟩ ⟨rfl, fun _ => rfl, fun _ => .refl _⟩
  obtain ⟨honly, law⟩ := s.countLost.closeDown_enter_ends c true
    (((s.countLost.closeDown c true).slots c).placeRequest ((s.countLost.closeDown c true).ctx c)
      ⟨.hang, ((s.countLost.closeDown c true).ctx c).callNumber, false, false⟩) .overrun (st := .failed) rfl
  refine hcount.trans (honly.keeps_abandon law ?_ hnaps _)
  rw [State.enter_ctx, if_pos rfl]
  exact CircuitState.noConfusion

theorem incomingData_keeps (payload : Payload) (c : CircuitId) {s : State}
    (hnaps : s.link.state.isNapping = false) : Keeps s (incomingData payload c s) := by
  unfold incomingData
  split
  case h_1 h | h_2 h | h_3 h =>
    exact Keeps.ite (fun _ => s.overrun_keeps c hnaps) fun hreserved =>
      State.acceptData_keeps (by rw [h]; rfl) (by rw [h]; decide) hreserved payload
  case h_4 h =>
    exact Keeps.ite (fun _ => s.discardStale_keeps) fun hreserved =>
      State.acceptData_keeps (by rw [h]; rfl) (by rw [h]; decide) hreserved payload
  all_goals exact s.discardStale_keeps

/-! ## Cells by class and trunk state (R88 to R94) -/

theorem State.post_keeps (s : State) (x : AckNak) : Keeps s (s.post x) :=
  .of_same ⟨⟨rfl, rfl, id⟩, rfl, rfl, id⟩ ⟨rfl, rfl, rfl, rfl, rfl, rfl⟩ ⟨rfl, fun _ => rfl, fun _ => .refl _⟩

theorem State.postNak_keeps (s : State) : Keeps s s.postNak :=
  Keeps.ite
    (fun _ => .of_same ⟨⟨rfl, rfl, id⟩, rfl, rfl, id⟩ ⟨rfl, rfl, rfl, rfl, rfl, rfl⟩
      ⟨rfl, fun _ => rfl, fun _ => .refl _⟩)
    fun _ => .refl s

/-- What the owner of a cell does keeps the laws on a trunk that does not nap. -/
def OwnerKeeps (owner : State → State) : Prop := ∀ s : State, s.link.state.isNapping = false → Keeps s (owner s)

theorem State.classified_keeps {s : State} (sequence : Byte) {owner : State → State} (howner : OwnerKeeps owner)
    (hnaps : s.link.state.isNapping = false) : Keeps s (s.classified sequence owner) := by
  unfold State.classified
  split
  · have haccept : Keeps s s.acceptCell :=
      .of_same ⟨⟨rfl, rfl, id⟩, rfl, rfl, id⟩ ⟨rfl, rfl, rfl, rfl, rfl, rfl⟩ ⟨rfl, fun _ => rfl, fun _ => .refl _⟩
    exact haccept.trans (howner _ hnaps)
  · exact s.post_keeps _
  · exact s.postNak_keeps

theorem State.implicitRouse_keeps (s : State) : Keeps s s.implicitRouse :=
  (s.answerLink_same _).trans (State.rouseToUp_keeps _ _)

theorem State.receiveCell_keeps (s : State) (sequence : Byte) {owner : State → State} (howner : OwnerKeeps owner) :
    Keeps s (s.receiveCell sequence owner) := by
  unfold State.receiveCell
  split
  case h_1 h | h_2 h | h_3 h => exact State.classified_keeps sequence howner (by rw [h]; rfl)
  case h_4 => exact s.implicitRouse_keeps
  case h_5 => exact (s.rouseToUp_keeps _).trans (State.classified_keeps sequence howner rfl)
  all_goals exact .refl s

theorem State.thresholdReached_keeps (s : State) : Keeps s s.thresholdReached := by
  unfold State.thresholdReached
  split
  case h_1 h | h_2 h | h_3 h => exact State.retuneCause_keeps (fun _ => by rw [h]; decide) _ _
  all_goals exact .refl s

theorem State.failCheck_keeps (s : State) : Keeps s s.failCheck := by
  have hchecker (u : State) (x : ReceiveChecker) : Keeps u { u with checker := x } :=
    .of_same ⟨⟨rfl, rfl, id⟩, rfl, rfl, id⟩ ⟨rfl, rfl, rfl, rfl, rfl, rfl⟩ ⟨rfl, fun _ => rfl, fun _ => .refl _⟩
  have hcount (u : State) : Keeps u u.countError := by
    have hreport : Keeps u (u.report .trunkError) := (u.report_only 0 _).keeps id id
    unfold State.countError
    extract_lets n v
    refine hreport.trans (Keeps.ite (fun _ => ?_) fun _ => hchecker _ _)
    exact (hchecker _ _).trans (State.thresholdReached_keeps _)
  unfold State.failCheck
  extract_lets r u v
  have hv : Keeps u v := Keeps.ite (fun _ => hcount u) fun _ => .refl u
  exact ((hchecker s _).trans hv).trans v.postNak_keeps

theorem cellRow_keeps {i : Instr} {q b : Byte} {owner : CircuitId → State → State}
    (hi : cellRow i = some (q, b, owner)) (c : CircuitId) : OwnerKeeps (owner c) := by
  intro s hnaps
  cases i with
  | incomingDataCell _ _ payload =>
    simp only [cellRow, Option.ite_none_right_eq_some] at hi
    obtain ⟨-, ⟨⟩⟩ := hi
    exact incomingData_keeps payload c hnaps
  | incomingDial _ _ k w => cases hi; exact incomingDial_keeps k w c hnaps
  | incomingAnswer _ _ k w => cases hi; exact incomingAnswer_keeps k w c s
  | incomingReject _ _ k r => cases hi; exact incomingReject_keeps k r c s
  | incomingHang _ _ k => cases hi; exact incomingHang_keeps k c s
  | incomingHangDone _ _ k => cases hi; exact incomingHangDone_keeps k c s
  | incomingQuietAsk _ _ k => cases hi; exact incomingQuietAsk_keeps k c s
  | incomingQuietOk _ _ k => cases hi; exact incomingQuietOk_keeps k c s
  | incomingQuietRefuse _ _ k => cases hi; exact incomingQuietRefuse_keeps k c s
  | incomingWake _ _ k => cases hi; exact incomingWake_keeps k c hnaps
  | incomingCredit _ _ k n => cases hi; exact incomingCredit_keeps k n c s
  | _ => cases hi

/-! ## ACK and NAK (R79 to R81) -/

theorem consecutive_drop {n : Byte} {l : List RetryEntry} (h : consecutive n l = true) (k : Nat) :
    consecutive (n + count8 k) (l.drop k) = true := by
  induction k generalizing n l with
  | zero => simpa [count8] using h
  | succ k ih =>
    cases l with
    | nil => rfl
    | cons e l =>
      rw [consecutive, Bool.and_eq_true] at h
      have hnext := ih h.2
      have hsum : n + 1 + count8 k = n + count8 (k + 1) := by
        rw [count8, count8, BitVec.ofNat_add]
        ac_rfl
      rwa [hsum] at hnext

theorem dataCells_take_drop (l : List RetryEntry) (k : Nat) :
    dataCells (l.take k) + dataCells (l.drop k) = dataCells l := by
  rw [← dataCells_append, List.take_append_drop]

theorem RetryUnit.removeFirst_pointer {r : RetryUnit} {k : Nat}
    (h : ∀ i, r.replayPointer = some i → i < r.entries.length) (i : Nat)
    (hi : (r.removeFirst k).replayPointer = some i) : i < (r.entries.drop k).length := by
  unfold RetryUnit.removeFirst at hi
  split at hi
  · cases hi
  · next hempty =>
    obtain ⟨j, hj, rfl⟩ := Option.map_eq_some_iff.mp hi
    have hdrop : 0 < (r.entries.drop k).length := by
      rwa [List.length_pos_iff, ne_eq, ← List.isEmpty_iff]
    rw [List.length_drop] at hdrop ⊢
    have := h j hj
    omega

/-- The state with the removed entries gone and their cells still to return (R79, R81). -/
def State.removed (s : State) (k : Nat) : State :=
  { s with
    retry :=
      { s.retry.removeFirst k with
        replayCounter := 0
        replayTimer :=
          if (s.retry.removeFirst k).entries.isEmpty || !(s.link.state == .up) then none
          else some s.port.parameters.ackTimeout }
    link := { s.link with retuneCounter := 0 } }

theorem State.acknowledge_eq (s : State) (k : Nat) :
    s.acknowledge k = (s.removed k).releaseCells (dataCells (s.retry.entries.take k)) := rfl

theorem State.removed_retry {s : State} (k : Nat) (law : RetryLaw s) : RetryLaw (s.removed k) := by
  obtain ⟨hlength, hnumbers, hpointer, hplace, htimer⟩ := law
  refine ⟨?_, ?_, fun i hi => RetryUnit.removeFirst_pointer hpointer i hi, ?_, fun _ => ?_⟩
  · show (s.retry.entries.drop k).length ≤ 48
    rw [List.length_drop]
    omega
  · show consecutive (s.retry.nextSequence - count8 (s.retry.entries.drop k).length) (s.retry.entries.drop k) = true
    by_cases hk : k ≤ s.retry.entries.length
    · have hfirst : s.retry.nextSequence - count8 (s.retry.entries.length - k)
          = s.retry.nextSequence - count8 s.retry.entries.length + count8 k := by
        have hsum : count8 s.retry.entries.length = count8 (s.retry.entries.length - k) + count8 k := by
          rw [count8, count8, count8, ← BitVec.ofNat_add, Nat.sub_add_cancel hk]
        rw [hsum]
        bv_omega
      rw [List.length_drop, hfirst]
      exact consecutive_drop hnumbers k
    · rw [List.drop_eq_nil_of_le (Nat.le_of_not_le hk)]
      rfl
  · obtain h | h | h := hplace
    · exact .inl h
    · exact .inr (.inl h)
    · refine .inr (.inr ?_)
      show s.retry.entries.drop k = []
      rw [h, List.drop_nil]
  · show (if (s.retry.entries.drop k).isEmpty || !(s.link.state == .up) then none
      else some s.port.parameters.ackTimeout).isSome = true ↔ s.link.state = .up ∧ s.retry.entries.drop k ≠ []
    by_cases hempty : s.retry.entries.drop k = [] <;> by_cases hup : s.link.state = .up <;> simp [hempty, hup]

theorem State.acknowledge_keeps (s : State) (k : Nat) : Keeps s (s.acknowledge k) := by
  have trunk := State.releaseCells_trunk (s.removed k) (dataCells (s.retry.entries.take k))
  have rest := State.releaseCells_rest (s.removed k) (dataCells (s.retry.entries.take k))
  rw [State.acknowledge_eq]
  refine ⟨⟨rest.power, rest.pending, rest.notices, fun law => ?_, fun law c => ?_, fun law => ?_, fun _ _ law => ?_⟩,
    rest.intake, rest.replies, rest.restart⟩
  · have hcells : (State.releaseCells (s.removed k) (dataCells (s.retry.entries.take k))).cellsOf = s.cellsOf := by
      funext c
      rw [State.cellsOf, State.releaseCells_cells]
      rfl
    have hsplit := dataCells_take_drop s.retry.entries k
    unfold PoolLaw at *
    rw [hcells, trunk.entries, State.releaseCells_free]
    show s.pool.free + _ + _ + dataCells (s.retry.entries.drop k) = 256
    omega
  · rw [State.releaseCells_cells]
    exact (law c).of_sameCall (State.releaseCells_sameCall (s.removed k) _ c)
  · rw [napLaw_iff] at law ⊢
    obtain ⟨htimer, hstill, hadmits⟩ := law
    rw [trunk.state, trunk.entries]
    refine ⟨fun t ht => ?_, fun h => ?_, fun c => ?_⟩
    · rw [State.releaseCells_link] at ht
      exact htimer t ht
    · show s.retry.entries.drop k = []
      rw [hstill h, List.drop_nil]
    · rw [(State.releaseCells_sameCall (s.removed k) _ c).state]
      exact hadmits c
  · exact trunk.retry rest.power (State.removed_retry k law)

theorem State.countStray_keeps (s : State) : Keeps s s.countStray :=
  .of_same ⟨⟨rfl, rfl, id⟩, rfl, rfl, id⟩ ⟨rfl, rfl, rfl, rfl, rfl, rfl⟩ ⟨rfl, fun _ => rfl, fun _ => .refl _⟩

/-- The pointer of a replay that begins stands on the head. -/
theorem State.beginReplay_keeps (s : State) : Keeps s s.beginReplay where
  toQueuesKeep := ⟨rfl, rfl, id⟩
  power := rfl
  pending := rfl
  notices law := law.raising _
  pool := id
  calls := id
  nap := id
  retry _ _ law := by
    obtain ⟨hlength, hnumbers, -, hplace, htimer⟩ := law
    refine ⟨hlength, hnumbers, fun i hi => ?_, hplace, htimer⟩
    obtain ⟨hne, hi⟩ := (Option.ite_none_left_eq_some).mp hi
    cases hi
    rw [List.isEmpty_iff, ← ne_eq, ← List.length_pos_iff] at hne
    exact hne

theorem State.replayIfAny_keeps (s : State) : Keeps s s.replayIfAny :=
  Keeps.ite (fun _ => .refl s) fun _ => s.beginReplay_keeps

theorem State.takeAck_keeps (s : State) (n : Byte) : Keeps s (s.takeAck n) := by
  unfold State.takeAck
  split
  · exact s.acknowledge_keeps _
  · exact s.countStray_keeps

theorem State.takeNak_keeps (s : State) (n : Byte) : Keeps s (s.takeNak n) := by
  unfold State.takeNak
  split
  · exact (s.acknowledge_keeps _).trans (State.replayIfAny_keeps _)
  · exact Keeps.ite (fun _ => s.replayIfAny_keeps) fun _ => s.countStray_keeps

theorem State.receiveAckNak_keeps (s : State) {owner : State → State} (howner : ∀ u, Keeps u (owner u)) :
    Keeps s (s.receiveAckNak owner) := by
  unfold State.receiveAckNak
  split
  case h_4 => exact s.implicitRouse_keeps
  case h_5 => exact (s.rouseToUp_keeps _).trans (howner _)
  case h_1 | h_2 | h_3 => exact howner s
  all_goals exact .refl s

/-! ## Link signals -/

/-- Marks, counters and the standing signal are no matter of the laws. -/
theorem State.setLink_keeps {s : State} {l : LinkController} {t : TransmitBlock} (hstate : l.state = s.link.state)
    (htimer : l.stateTimer = s.link.stateTimer) :
    Keeps s { s with link := l, transmit := t } :=
  .of_same ⟨⟨rfl, rfl, id⟩, rfl, rfl, id⟩ ⟨hstate, by rw [htimer], rfl, rfl, rfl, rfl⟩
    ⟨rfl, fun _ => rfl, fun _ => .refl _⟩

theorem State.switchToReady_keeps (s : State) :
    Keeps s s.switchToReady ∧ s.switchToReady.link.state = s.link.state := by
  unfold State.switchToReady
  split
  · exact ⟨State.setLink_keeps rfl rfl, rfl⟩
  · exact ⟨.refl s, rfl⟩

/-- The peer's mark set in TRAINING, the standing HELLO turned to READY, and the end of the training where it is due. -/
theorem State.heardInTraining_keeps {s : State} (h : s.link.state = .training) {l : LinkController}
    (hstate : l.state = s.link.state) (htimer : l.stateTimer = s.link.stateTimer) :
    Keeps s (State.switchToReady { s with link := l }).finishTraining := by
  have hmark : Keeps s { s with link := l } := State.setLink_keeps hstate htimer
  obtain ⟨hswitch, hlink⟩ := State.switchToReady_keeps { s with link := l }
  exact (hmark.trans hswitch).trans (State.finishTraining_keeps (hlink.trans (hstate.trans h)))

theorem State.peerCalls_keeps {s : State} (h : s.link.state = .down ∨ s.link.state = .fault)
    (side version circuits capacity : Byte) : Keeps s (s.peerCalls side version circuits capacity) := by
  unfold State.peerCalls
  extract_lets l u
  have hcall : Keeps s u :=
    .of_same ⟨⟨rfl, rfl, id⟩, rfl, rfl, fun law => law.raising _⟩ ⟨rfl, rfl, rfl, rfl, rfl, rfl⟩
      ⟨rfl, fun _ => rfl, fun _ => .refl _⟩
  refine Keeps.ite (fun _ => hcall) fun _ => hcall.trans ?_
  split
  · exact u.enterFault_keeps _
  · exact State.enterTraining_keeps (s := u) _ _ h

theorem State.takeHello_keeps (s : State) (side version circuits capacity : Byte) :
    Keeps s (s.takeHello side version circuits capacity) := by
  unfold State.takeHello
  split
  case h_1 h => exact State.peerCalls_keeps (.inl h) ..
  case h_2 h => exact Keeps.ite (fun _ => State.peerCalls_keeps (.inr h) ..) fun _ => .refl s
  case h_3 h =>
    unfold State.helloInTraining
    split
    · exact s.enterFault_keeps _
    · exact State.heardInTraining_keeps h rfl rfl
  all_goals exact s.enterFault_keeps _

theorem State.echoOnce_keeps (s : State) (x : LinkSignal) : Keeps s (s.echoOnce x) :=
  Keeps.ite (fun _ => .refl s) fun _ => State.setLink_keeps rfl rfl

theorem State.takeReady_keeps (s : State) : Keeps s s.takeReady := by
  unfold State.takeReady
  split
  case h_1 h => exact State.heardInTraining_keeps h rfl rfl
  case h_2 => exact s.echoOnce_keeps _
  case h_3 => exact s.implicitRouse_keeps
  all_goals exact .refl s

theorem State.tuneInRetune_keeps (s : State) : Keeps s s.tuneInRetune := by
  unfold State.tuneInRetune
  extract_lets l u
  split <;> exact State.setLink_keeps rfl rfl

theorem State.takeTune_keeps (s : State) : Keeps s s.takeTune := by
  unfold State.takeTune
  split
  case h_1 h | h_2 h | h_3 h => exact State.retuneCause_keeps (fun _ => by rw [h]; decide) _ _
  case h_4 => exact s.tuneInRetune_keeps
  case h_5 => exact s.implicitRouse_keeps
  all_goals exact .refl s

theorem State.tuneOkInRetune_keeps {s : State} (h : s.link.state = .retune) : Keeps s s.tuneOkInRetune := by
  unfold State.tuneOkInRetune
  extract_lets l u v
  have hv : Keeps s v ∧ v.link.state = .retune := by
    dsimp only [v]
    split <;> exact ⟨State.setLink_keeps rfl rfl, h⟩
  exact Keeps.ite (fun _ => hv.1.trans (State.returnFromRetune_keeps hv.2)) fun _ => hv.1

theorem State.takeTuneOk_keeps (s : State) : Keeps s s.takeTuneOk := by
  unfold State.takeTuneOk
  split
  case h_1 => exact s.echoOnce_keeps _
  case h_2 h => exact State.tuneOkInRetune_keeps h
  case h_3 => exact s.implicitRouse_keeps
  all_goals exact .refl s

theorem State.takeNapAsk_keeps (s : State) : Keeps s s.takeNapAsk := by
  have hgrant : Keeps s s.grantNap := State.setLink_keeps rfl rfl
  unfold State.takeNapAsk
  split
  case h_1 =>
    exact Keeps.ite (fun _ => .refl s) fun _ => Keeps.ite (fun _ => hgrant) fun _ => s.answerLink_same _
  case h_2 => exact Keeps.ite (fun _ => .refl s) fun _ => hgrant
  case h_3 => exact s.answerLink_same _
  all_goals exact .refl s

theorem State.takeRouse_keeps (s : State) : Keeps s s.takeRouse := by
  unfold State.takeRouse
  split
  case h_1 => exact s.answerLink_same _
  case h_2 h =>
    exact (s.answerLink_same _).trans
      (State.enterUp_keeps (s := s.answerLink .rouseOk) (by rw [State.answerLink_link, h]; rfl) _)
  case h_3 | h_4 => exact (s.answerLink_same _).trans (State.rouseToUp_keeps _ _)
  all_goals exact .refl s

theorem State.takeDown_keeps (s : State) : Keeps s s.takeDown := by
  unfold State.takeDown
  split
  case h_6 h =>
    exact (s.answerLink_same _).trans
      (State.enterDown_keeps (s := s.answerLink .downOk) _ (.inr (.inr (.inl h))))
  case h_7 | h_8 | h_9 => exact .refl s
  all_goals exact s.closedByPeer_keeps

theorem State.takeFault_keeps (s : State) : Keeps s s.takeFault := by
  unfold State.takeFault
  split
  case h_8 | h_9 => exact .refl s
  all_goals exact s.enterFault_keeps _

/-! ## Completion on the wire -/

theorem State.signalSent_keeps (s : State) (x : LinkSignal) : Keeps s (s.signalSent x) := by
  unfold State.signalSent
  split
  case h_1 =>
    refine Keeps.ite (fun h => ?_) fun _ => .refl s
    have hmark : Keeps s { s with link := { s.link with readySent := true } } := State.setLink_keeps rfl rfl
    exact hmark.trans (State.finishTraining_keeps h)
  case h_2 =>
    refine Keeps.ite (fun h => ?_) fun _ => .refl s
    have hmark : Keeps s { s with link := { s.link with tuneOkSent := true } } := State.setLink_keeps rfl rfl
    exact Keeps.ite (fun _ => hmark.trans (State.returnFromRetune_keeps h)) fun _ => hmark
  case h_3 =>
    refine Keeps.ite (fun _ => ?_) fun _ => .refl s
    split
    case h_1 =>
      exact Keeps.ite (fun htest => State.enterNap_keeps_of_test htest _) fun _ => State.setLink_keeps rfl rfl
    case h_2 h => exact State.enterNap_keeps_of_asking h _
    all_goals exact .refl s
  all_goals exact .refl s

theorem State.frameCompletes_keeps (s : State) : Keeps s s.frameCompletes := by
  unfold State.frameCompletes
  split
  · exact .refl s
  · extract_lets t u
    have hidle : Keeps s u := State.setLink_keeps rfl rfl
    split
    · exact hidle.trans (u.signalSent_keeps _)
    all_goals exact hidle

/-! ## Timers -/

/-- The state with another replay timer. -/
def State.setReplayTimer (s : State) (timer : Option Nat) : State :=
  { s with retry := { s.retry with replayTimer := timer } }

theorem State.trunkLoss_setReplayTimer (s : State) (timer : Option Nat) (cause : CircuitCause) :
    (s.setReplayTimer timer).trunkLoss cause = s.trunkLoss cause := rfl

theorem State.enterFault_setReplayTimer (s : State) (timer : Option Nat) (cause : TrunkCause) :
    (s.setReplayTimer timer).enterFault cause = s.enterFault cause := by
  rw [State.enterFault_eq, State.enterFault_eq, State.trunkLoss_setReplayTimer]
  exact if_congr Iff.rfl rfl rfl

theorem State.enterRetune_setReplayTimer (s : State) (timer : Option Nat) (cause : TrunkCause) (heard : Bool) :
    (s.setReplayTimer timer).enterRetune cause heard = s.enterRetune cause heard := rfl

/-- The state with a retune cause counted (R127). -/
def State.countRetune (s : State) : State :=
  { s with link := { s.link with retuneCounter := s.link.retuneCounter + 1 } }

theorem State.retuneCause_counted (s : State) (cause : TrunkCause) (heard : Bool) :
    s.retuneCause cause heard
      = if s.port.parameters.retuneLimit ≤ s.link.retuneCounter + 1 then s.countRetune.enterFault .retuneLimit
        else s.countRetune.enterRetune cause heard := rfl

/-- A retune cause stops the replay timer, whatever it was (R83, R127). -/
theorem State.retuneCause_setReplayTimer (s : State) (timer : Option Nat) (cause : TrunkCause) (heard : Bool) :
    (s.setReplayTimer timer).retuneCause cause heard = s.retuneCause cause heard := by
  have hcount : (s.setReplayTimer timer).countRetune = s.countRetune.setReplayTimer timer := rfl
  rw [State.retuneCause_counted, State.retuneCause_counted, hcount, State.enterFault_setReplayTimer,
    State.enterRetune_setReplayTimer]
  exact if_congr Iff.rfl rfl rfl

/-- The limit of the replay counter is reported in UP, and a running replay timer means UP (R84). -/
theorem State.replayLimitReported_keeps {s : State} {ms : Nat} (htimer : s.retry.replayTimer = some ms) :
    Keeps s (s.setReplayTimer none).replayLimitReported := by
  refine Keeps.ite (fun hup => ?_) fun hup => ?_
  · rw [State.retuneCause_setReplayTimer]
    exact State.retuneCause_keeps (fun _ => by rw [show s.link.state = .up from hup]; decide) _ _
  · refine ⟨⟨rfl, rfl, id, id, id, id, fun hrunning _ law => ?_⟩, rfl, rfl, id⟩
    obtain ⟨-, -, -, -, hruns⟩ := law
    exact absurd ((hruns hrunning).mp (by rw [htimer]; rfl)).1 hup

theorem State.replayExpires_keeps (s : State) : Keeps s s.replayExpires := by
  unfold State.replayExpires
  split
  · next ms htimer =>
    extract_lets n
    refine Keeps.ite (fun _ => ?_) fun _ => ?_
    · refine Keeps.trans ?_ (State.beginReplay_keeps _)
      exact .of_same ⟨⟨rfl, rfl, id⟩, rfl, rfl, id⟩ ⟨rfl, rfl, rfl, rfl, rfl, by rw [htimer]; rfl⟩
        ⟨rfl, fun _ => rfl, fun _ => .refl _⟩
    · have hcount : Keeps s { s with retry := { s.retry with replayCounter := n } } :=
        .of_same ⟨⟨rfl, rfl, id⟩, rfl, rfl, id⟩ ⟨rfl, rfl, rfl, rfl, rfl, rfl⟩ ⟨rfl, fun _ => rfl, fun _ => .refl _⟩
      exact hcount.trans (State.replayLimitReported_keeps htimer)
  · exact .refl s

end Sys2Proof.Machine
end

section
/-!
SUPPORT. Every command: the state timer's expiries, the host line's queues, and what a command leaves of a running and
of a held part.
-/

namespace Sys2Proof.Machine

/-! ## The state timer (R119) -/

/-- A state timer that runs tells the trunk state. -/
theorem NapLaw.state_of_timerRuns {s : State} {k : StateTimerKind} (law : NapLaw s) (h : s.link.timerRuns k = true) :
    s.link.state = timerState k := by
  obtain ⟨htimer, -⟩ := law
  unfold LinkController.timerRuns at h
  split at h
  · next t ht => rw [← htimer t ht, ← beq_iff_eq.mp h]
  · cases h

theorem State.enterDown_keeps_of_timer {s : State} {k : StateTimerKind} (cause : TrunkCause)
    (h : s.link.timerRuns k = true) (hk : k = .train ∨ k = .close) : Keeps s (s.enterDown cause) := by
  have hstate (law : NapLaw s) : s.link.state = .training ∨ s.link.state = .closing := by
    rw [law.state_of_timerRuns h]
    obtain rfl | rfl := hk
    · exact .inl rfl
    · exact .inr rfl
  refine (s.changeTrunk_entry (some cause) (by decide)).keeps (s.changeTrunk_calls _ _)
    (fun law => entryAdmits_of_not_napping ?_ rfl law) fun law hretry =>
      .inr (.inr (hretry.entries_of_not_live ?_ ?_)) <;>
    obtain hs | hs := hstate law <;> rw [hs] <;> decide

theorem State.enterUp_keeps_of_timer {s : State} (cause : TrunkCause) (h : s.link.timerRuns .napAsk = true) :
    Keeps s (s.enterUp (some cause)) :=
  (s.enterUp_entry _).keeps (s.enterUp_calls _)
    (fun law => entryAdmits_of_not_napping (by rw [law.state_of_timerRuns h]; rfl) rfl law) fun _ _ => .inl rfl

/-- The state timer stops, or starts again as the timer of its trunk state; nothing else that the laws read changes. -/
theorem Keeps.of_timer {s t : State} (rest : SameRest s t) (same : SameCalls s t) (state : t.link.state = s.link.state)
    (retry : t.retry = s.retry)
    (timer : NapLaw s → ∀ k, t.link.stateTimer = some k → timerState k.kind = s.link.state) : Keeps s t where
  toQueuesKeep := rest.toQueuesKeep
  power := rest.power
  pending := rest.pending
  notices := rest.notices
  pool := PoolLaw.of_eq (by rw [same.free, same.cellsOf]) (by rw [retry])
  calls := same.calls
  nap law := by
    have htimer := timer law
    rw [napLaw_iff] at law ⊢
    obtain ⟨-, hstill, hadmits⟩ := law
    rw [state, retry]
    exact ⟨htimer, hstill, fun c => by rw [(same.ctx c).state]; exact hadmits c⟩
  retry _ _ law := by
    unfold RetryLaw at *
    rwa [state, retry, rest.power]

theorem State.retuneExpires_keeps {s : State} (h : s.link.timerRuns .retune = true) : Keeps s s.retuneExpires := by
  unfold State.retuneExpires
  extract_lets l u
  have hcount : Keeps s u := State.setLink_keeps rfl rfl
  refine Keeps.ite (fun _ => hcount.trans (u.enterFault_keeps _)) fun _ => ?_
  refine .of_timer ⟨⟨rfl, rfl, id⟩, rfl, rfl, fun law => law.raising _⟩ ⟨rfl, fun _ => rfl, fun _ => .refl _⟩ rfl rfl
    fun law k hk => ?_
  cases hk
  rw [law.state_of_timerRuns h]

theorem State.holdEnds_keeps (s : State) : Keeps s s.holdEnds :=
  .of_timer ⟨⟨rfl, rfl, id⟩, rfl, rfl, fun law => law.raising _⟩ ⟨rfl, fun _ => rfl, fun _ => .refl _⟩ rfl rfl
    fun _ _ hk => nomatch hk

theorem State.dialExpires_keeps (s : State) (c : CircuitId) : Keeps s (s.dialExpires c) := by
  unfold State.dialExpires
  split
  · exact s.giveUpDial_keeps c _
  all_goals exact .refl s

theorem State.ringExpires_keeps (s : State) (c : CircuitId) : Keeps s (s.ringExpires c) := by
  unfold State.ringExpires
  split
  · exact s.declineCall_keeps c _ _
  all_goals exact .refl s

theorem State.holdoffExpires_keeps (s : State) (c : CircuitId) : Keeps s (s.holdoffExpires c) := by
  unfold State.holdoffExpires
  split
  · exact State.setCtx_keeps ⟨rfl, rfl, rfl, rfl, rfl, rfl, rfl, rfl⟩
  · exact .refl s

theorem State.windowCloses_keeps (s : State) : Keeps s s.windowCloses := by
  unfold State.windowCloses
  split
  · exact .of_same ⟨⟨rfl, rfl, id⟩, rfl, rfl, id⟩ ⟨rfl, rfl, rfl, rfl, rfl, rfl⟩ ⟨rfl, fun _ => rfl, fun _ => .refl _⟩
  · exact .refl s

theorem State.repeatExpires_keeps (s : State) : Keeps s s.repeatExpires := by
  unfold State.repeatExpires
  split
  · exact State.setLink_keeps rfl rfl
  · exact .refl s

theorem State.gapExpires_keeps (s : State) : Keeps s s.gapExpires :=
  Keeps.ite
    (fun _ => .of_same ⟨⟨rfl, rfl, id⟩, rfl, rfl, fun law => law.raising _⟩ ⟨rfl, rfl, rfl, rfl, rfl, rfl⟩
      ⟨rfl, fun _ => rfl, fun _ => .refl _⟩)
    fun _ => .refl s

/-! ## Claims -/

/-- The command is one claim, which keeps the laws. -/
def IsClaim (i : Instr) : Prop := ∃ f : State → State, (∀ s, exec i s = s.event f) ∧ ∀ s, Keeps s (f s)

/-- A cell row is one claim. -/
theorem isClaim_of_cellRow {i : Instr} {q b : Byte} {owner : CircuitId → State → State}
    (hi : cellRow i = some (q, b, owner)) : IsClaim i := by
  refine ⟨_, fun s => exec_of_cellRow hi s, fun s => ?_⟩
  split
  · next c _ => exact s.receiveCell_keeps q (cellRow_keeps hi c)
  · exact s.failCheck_keeps

/-- The rows of the host line and of the pins, which are no claim or not only one. -/
def isHostRow : Instr → Bool
  | .hostByteReceived .. | .replySent | .restartStart _ | .powerOn _ | .resetPinLow | .resetPinHigh _ => true
  | i => (requestFrame i).isSome

theorem isClaim_of_not_hostRow {i : Instr} (h : isHostRow i = false) : IsClaim i := by
  cases i with
  | incomingDataCell q b payload =>
    by_cases hfits : payloadFits payload = true
    · exact isClaim_of_cellRow (if_pos hfits)
    · exact ⟨State.failCheck, fun s => if_neg hfits, State.failCheck_keeps⟩
  | incomingDial | incomingAnswer | incomingReject | incomingHang | incomingHangDone | incomingQuietAsk
  | incomingQuietOk | incomingQuietRefuse | incomingWake | incomingCredit => exact isClaim_of_cellRow rfl
  | helloReceived side version circuits capacity =>
    by_cases hside : isSideCode side = true
    · exact ⟨_, fun s => if_pos hside, fun s => s.takeHello_keeps side version circuits capacity⟩
    · exact ⟨State.failCheck, fun s => if_neg hside, State.failCheck_keeps⟩
  | ackReceived n => exact ⟨_, fun _ => rfl, fun s => s.receiveAckNak_keeps fun u => u.takeAck_keeps n⟩
  | nakReceived n => exact ⟨_, fun _ => rfl, fun s => s.receiveAckNak_keeps fun u => u.takeNak_keeps n⟩
  | readyReceived => exact ⟨_, fun _ => rfl, State.takeReady_keeps⟩
  | tuneReceived => exact ⟨_, fun _ => rfl, State.takeTune_keeps⟩
  | tuneOkReceived => exact ⟨_, fun _ => rfl, State.takeTuneOk_keeps⟩
  | napAskReceived => exact ⟨_, fun _ => rfl, State.takeNapAsk_keeps⟩
  | napOkReceived =>
    exact ⟨_, fun _ => rfl, fun s => Keeps.ite (fun h => State.enterNap_keeps_of_asking h _) fun _ => .refl s⟩
  | napRefuseReceived =>
    exact ⟨_, fun _ => rfl, fun s => Keeps.ite (fun h => State.enterUp_keeps (by rw [h]; rfl) _) fun _ => .refl s⟩
  | rouseReceived => exact ⟨_, fun _ => rfl, State.takeRouse_keeps⟩
  | rouseOkReceived =>
    exact ⟨_, fun _ => rfl, fun s => Keeps.ite (fun _ => s.rouseToUp_keeps _) fun _ => .refl s⟩
  | downReceived => exact ⟨_, fun _ => rfl, State.takeDown_keeps⟩
  | downOkReceived =>
    exact ⟨_, fun _ => rfl, fun s =>
      Keeps.ite (fun h => State.enterDown_keeps _ (.inr (.inr (.inl h)))) fun _ => .refl s⟩
  | faultReceived _ => exact ⟨_, fun _ => rfl, State.takeFault_keeps⟩
  | frameFailsCheck => exact ⟨_, fun _ => rfl, State.failCheck_keeps⟩
  | trunkFrameComplete => exact ⟨_, fun _ => rfl, State.frameCompletes_keeps⟩
  | gapTimerExpiry => exact ⟨_, fun _ => rfl, State.gapExpires_keeps⟩
  | dialTimerExpiry c => exact ⟨_, fun _ => rfl, fun s => s.dialExpires_keeps c⟩
  | ringTimerExpiry c => exact ⟨_, fun _ => rfl, fun s => s.ringExpires_keeps c⟩
  | holdoffExpiry c => exact ⟨_, fun _ => rfl, fun s => s.holdoffExpires_keeps c⟩
  | replayTimerExpiry => exact ⟨_, fun _ => rfl, State.replayExpires_keeps⟩
  | errorWindowExpiry => exact ⟨_, fun _ => rfl, State.windowCloses_keeps⟩
  | repeatTimerExpiry => exact ⟨_, fun _ => rfl, State.repeatExpires_keeps⟩
  | trainTimerExpiry =>
    exact ⟨_, fun _ => rfl, fun s =>
      Keeps.ite (fun h => State.enterDown_keeps_of_timer _ h (.inl rfl)) fun _ => .refl s⟩
  | closeTimerExpiry =>
    exact ⟨_, fun _ => rfl, fun s =>
      Keeps.ite (fun h => State.enterDown_keeps_of_timer _ h (.inr rfl)) fun _ => .refl s⟩
  | retuneTimerExpiry =>
    exact ⟨_, fun _ => rfl, fun s => Keeps.ite (fun h => State.retuneExpires_keeps h) fun _ => .refl s⟩
  | faultHoldExpiry => exact ⟨_, fun _ => rfl, fun s => Keeps.ite (fun _ => s.holdEnds_keeps) fun _ => .refl s⟩
  | napAskTimerExpiry =>
    exact ⟨_, fun _ => rfl, fun s => Keeps.ite (fun h => State.enterUp_keeps_of_timer _ h) fun _ => .refl s⟩
  | rouseTimerExpiry =>
    exact ⟨_, fun _ => rfl, fun s =>
      Keeps.ite (fun h => State.retuneCause_keeps (fun law => by rw [law.state_of_timerRuns h]; decide) _ _)
        fun _ => .refl s⟩
  | _ => cases h

end Sys2Proof.Machine
end

section
/-!
SUPPORT. A whole command against the laws: the requests that are taken one after another, the host line, the reset pins
and the starts.
-/

namespace Sys2Proof.Machine

/-! ## Taking requests (R178, R180, R190) -/

/-- The Host Port's state is no matter of the other blocks' laws. -/
theorem BlocksKeep.of_port {s t : State} (h : ∃ p, t = { s with port := p }) : BlocksKeep s t := by
  obtain ⟨p, rfl⟩ := h
  exact ⟨rfl, rfl, id, id, id, id, fun _ _ => id⟩

theorem State.judge_keeps (s : State) (kind : Byte) (body : List Byte) : Keeps s (s.judge kind body).state := by
  unfold State.judge
  split
  · exact .refl s
  · exact handRequest_keeps s _

theorem State.takeRequest_blocks (s : State) (f : HostFrame) : BlocksKeep s (s.takeRequest f) :=
  (s.judge_keeps f.kind f.body).toBlocksKeep.trans (.of_port ⟨_, rfl⟩)

theorem State.takeRequest_intake (s : State) (f : HostFrame) : (s.takeRequest f).port.intake = s.port.intake :=
  (s.judge_keeps f.kind f.body).intake

theorem State.takeRequest_replies_length (s : State) (f : HostFrame) :
    (s.takeRequest f).port.replies.length = s.port.replies.length + 1 := by
  rw [State.takeRequest, Taken.reply, List.length_append, (s.judge_keeps f.kind f.body).replies, List.length_singleton]

/-- One waiting request is taken and its claim ends. -/
theorem State.takeFirst_blocks (s : State) (f : HostFrame) (rest : List HostFrame) :
    BlocksKeep s ((s.setIntake rest).takeRequest f).settle :=
  .trans (.of_port ⟨_, rfl⟩) (.trans (State.takeRequest_blocks _ f) (State.settle_keeps _).toBlocksKeep)

theorem State.serve_blocks (n : Nat) (s : State) : BlocksKeep s (s.serve n) := by
  induction n generalizing s with
  | zero => exact .refl s
  | succ n ih =>
    rw [State.serve]
    split
    · exact .refl s
    · next f rest _ =>
      split
      · exact (s.takeFirst_blocks f rest).trans (ih _)
      · exact .refl s

theorem State.serve_raised (n : Nat) (s : State) (h : s.notices.raised = []) : (s.serve n).notices.raised = [] := by
  induction n generalizing s with
  | zero => exact h
  | succ n ih =>
    rw [State.serve]
    split
    · exact h
    · split
      · exact ih _ (State.settle_raised _)
      · exact h

theorem HostPort.mayTake_iff (p : HostPort) : p.mayTake = true ↔ p.replies.length < 4 ∧ p.restart = .none := by
  rw [HostPort.mayTake, Bool.and_eq_true, decide_eq_true_iff, beq_iff_eq]
  rfl

/-- Requests are taken until none waits or none may be taken. -/
structure HostPort.Idle (p : HostPort) : Prop where
  replies : p.replies.length ≤ 4
  taken : p.intake = [] ∨ p.mayTake = false

theorem portLaw_of_idle {s : State} (h : s.port.Idle) (hintake : s.port.intake.length ≤ 4) : PortLaw s := by
  refine ⟨hintake, h.replies, fun _ => h.taken.imp_right fun hno => ?_⟩
  rw [← Bool.not_eq_true, HostPort.mayTake_iff] at hno
  have hreplies := h.replies
  by_cases hnone : s.port.restart = .none
  · exact .inl (le_antisymm hreplies (not_lt.mp fun h => hno ⟨h, hnone⟩))
  · exact .inr hnone

theorem State.serve_idle (n : Nat) (s : State) (hn : s.port.intake.length ≤ n) (hreplies : s.port.replies.length ≤ 4) :
    (s.serve n).port.Idle ∧ (s.serve n).port.intake.length ≤ s.port.intake.length := by
  induction n generalizing s with
  | zero => exact ⟨⟨hreplies, .inl (List.eq_nil_of_length_eq_zero (Nat.le_zero.mp hn))⟩, le_refl _⟩
  | succ n ih =>
    rw [State.serve]
    split
    · next hnil => exact ⟨⟨hreplies, .inl hnil⟩, le_refl _⟩
    · next f rest hcons =>
      rw [hcons, List.length_cons] at hn
      split
      · next hmay =>
        have hroom := ((HostPort.mayTake_iff _).mp hmay).1
        have hrest : ((s.setIntake rest).takeRequest f).settle.port.intake = rest := by
          rw [State.settle_port, State.takeRequest_intake]
          rfl
        have hadded : ((s.setIntake rest).takeRequest f).settle.port.replies.length ≤ 4 := by
          rw [State.settle_port, State.takeRequest_replies_length]
          exact hroom
        obtain ⟨hidle, hlength⟩ := ih _ (by rw [hrest]; omega) hadded
        refine ⟨hidle, hlength.trans ?_⟩
        rw [hrest, hcons]
        exact Nat.le_succ _
      · next hno => exact ⟨⟨hreplies, .inr (Bool.eq_false_of_not_eq_true hno)⟩, le_refl _⟩

/-! ## A command on a running part -/

/-- What a command does to the laws on a running part. -/
structure LawsKept (s t : State) : Prop extends BlocksKeep s t where
  raised : s.notices.raised = [] → t.notices.raised = []
  port : PortLaw s → PortLaw t

theorem LawsKept.refl (s : State) : LawsKept s s := ⟨.refl s, id, id⟩

/-- A claim on a running part, with its end. -/
theorem Keeps.lawsKept_settle {s t : State} (h : Keeps s t) : LawsKept s t.settle where
  toBlocksKeep := h.toBlocksKeep.trans t.settle_keeps.toBlocksKeep
  raised _ := t.settle_raised
  port law := by
    obtain ⟨hintake, hreplies, hwait⟩ := law
    rw [PortLaw, State.settle_port, State.settle_power, h.intake, h.replies, h.power]
    exact ⟨hintake, hreplies, fun hrunning => (hwait hrunning).imp_right (.imp_right h.restart)⟩

theorem State.discardFrame_keeps (s : State) : Keeps s s.discardFrame :=
  .of_same ⟨⟨rfl, rfl, id⟩, rfl, rfl, fun law => law.raising _⟩ ⟨rfl, rfl, rfl, rfl, rfl, rfl⟩
    ⟨rfl, fun _ => rfl, fun _ => .refl _⟩

theorem State.setFramer_lawsKept (s : State) (f : Framer) : LawsKept s (s.setFramer f) :=
  ⟨.of_port ⟨_, rfl⟩, id, id⟩

/-- The requests that wait are served. -/
theorem State.serve_lawsKept {s t : State} {n : Nat} (h : ∃ p, t = { s with port := p })
    (hn : t.port.intake.length ≤ n) (hintake : PortLaw s → t.port.intake.length ≤ 4)
    (hreplies : PortLaw s → t.port.replies.length ≤ 4) : LawsKept s (t.serve n) where
  toBlocksKeep := (BlocksKeep.of_port h).trans (t.serve_blocks n)
  raised hnil := by
    obtain ⟨p, rfl⟩ := h
    exact State.serve_raised n _ hnil
  port law :=
    have hserved := t.serve_idle n hn (hreplies law)
    portLaw_of_idle hserved.1 (hserved.2.trans (hintake law))

theorem State.goodFrame_lawsKept (s : State) (f : HostFrame) : LawsKept s (s.goodFrame f) := by
  rw [State.goodFrame]
  split
  · next hroom =>
    have hlength : (s.setIntake (s.port.intake ++ [f])).port.intake.length = s.port.intake.length + 1 :=
      List.length_append
    exact State.serve_lawsKept ⟨_, rfl⟩ hlength.le (fun _ => hlength.trans_le hroom) fun law => law.2.1
  · exact Keeps.lawsKept_settle (.of_same ⟨⟨rfl, rfl, id⟩, rfl, rfl, fun law => law.raising _⟩
      ⟨rfl, rfl, rfl, rfl, rfl, rfl⟩ ⟨rfl, fun _ => rfl, fun _ => .refl _⟩)

theorem LawsKept.trans {s t u : State} (h : LawsKept s t) (k : LawsKept t u) : LawsKept s u :=
  ⟨h.toBlocksKeep.trans k.toBlocksKeep, k.raised ∘ h.raised, k.port ∘ h.port⟩

theorem State.checkFrame_lawsKept (s : State) (length : Byte) (bytes : List Byte) (low high : Byte) :
    LawsKept s (s.checkFrame length bytes low high) := by
  unfold State.checkFrame
  split
  · split
    · exact (s.setFramer_lawsKept _).trans (State.goodFrame_lawsKept _ _)
    · exact s.discardFrame_keeps.lawsKept_settle
  · exact s.discardFrame_keeps.lawsKept_settle

theorem State.hostByte_lawsKept (s : State) (b : Byte) (stopBit : Bool) : LawsKept s (s.hostByte b stopBit) := by
  have hdiscard : LawsKept s s.discardFrame.settle := s.discardFrame_keeps.lawsKept_settle
  unfold State.hostByte
  split
  case h_1 =>
    split
    · exact s.setFramer_lawsKept _
    · exact .refl s
  case h_3 =>
    split
    · split
      · exact s.setFramer_lawsKept _
      · exact s.setFramer_lawsKept _
    · exact hdiscard
  case h_5 =>
    split
    · exact s.checkFrame_lawsKept ..
    · exact hdiscard
  all_goals
    split
    · exact s.setFramer_lawsKept _
    · exact hdiscard

/-- The state with another reply queue. -/
def State.setReplies (s : State) (q : List Reply) : State := { s with port := { s.port with replies := q } }

theorem State.replyLeaves_nil {s : State} (h : s.port.replies = []) : s.replyLeaves = s := by
  rw [State.replyLeaves, h]

theorem State.replyLeaves_cons {s : State} {r : Reply} {rest : List Reply} (h : s.port.replies = r :: rest) :
    s.replyLeaves =
      if s.port.restart = .waiting ∧ rest = [] then
        { s with port := { s.port with replies := rest, restart := .replyLeft } }
      else (s.setReplies rest).serve s.port.intake.length := by
  rw [State.replyLeaves, h]
  rfl

theorem State.replyLeaves_lawsKept (s : State) : LawsKept s s.replyLeaves := by
  cases hreplies : s.port.replies with
  | nil =>
    rw [State.replyLeaves_nil hreplies]
    exact .refl s
  | cons r rest =>
    rw [State.replyLeaves_cons hreplies]
    have hrest (law : PortLaw s) : rest.length ≤ 4 := by
      have := law.2.1
      rw [hreplies, List.length_cons] at this
      omega
    split
    · exact ⟨.of_port ⟨_, rfl⟩, id, fun law => ⟨law.1, hrest law, fun _ => .inr (.inr nofun)⟩⟩
    · exact State.serve_lawsKept ⟨_, rfl⟩ (le_refl _) (fun law => law.1) hrest

/-! ## Reset and starts (R188, R189, R195) -/

/-- The laws, all six. -/
structure Laws (s : State) : Prop where
  pool : PoolLaw s
  calls : CallLaw s
  port : PortLaw s
  retry : RetryLaw s
  notices : NoticeLaw s
  nap : NapLaw s

theorem CircuitLaw.atStart : CircuitLaw .atStart .atStart := by
  refine ⟨nofun, fun _ => ⟨rfl, rfl⟩, fun _ => rfl, fun _ => ⟨rfl, rfl, rfl⟩, ?_⟩
  decide

theorem NoticeUnit.record_atStart (p : Pair) : NoticeUnit.record .atStart p = .atStart := by
  cases p with
  | trunkState | trunkError | portError => rfl
  | state c | arrived c | room c => revert c; decide

/-- The laws at a start, of a part that then runs or is held. -/
theorem Laws.atStart (side : Side) (speed : LineSpeed) (cause : StartCause) (q : List Instr) (p : Power) :
    Laws { State.atStart side speed cause q with power := p } where
  pool := rfl
  calls c := by
    have hctx : State.ctx { State.atStart side speed cause q with power := p } c = .atStart := PerCircuit.get_all _ c
    have hcells : State.cells { State.atStart side speed cause q with power := p } c = .atStart :=
      PerCircuit.get_all _ c
    rw [hctx, hcells]
    exact CircuitLaw.atStart
  port := ⟨Nat.zero_le _, Nat.zero_le _, fun _ => .inl rfl⟩
  retry := ⟨Nat.zero_le _, rfl, nofun, .inr (.inr rfl), fun _ => by constructor <;> nofun⟩
  notices := by
    refine ⟨Nat.zero_le _, .nil, fun pair => ?_, fun _ => rfl, rfl⟩
    change ((NoticeUnit.record .atStart pair).queued = true ↔ pair ∈ []) ∧ (pair ∈ [] → _)
      ∧ (NoticeUnit.record .atStart pair).unreported ≤ 255
      ∧ (_ → 0 < (NoticeUnit.record .atStart pair).unreported → _)
    rw [NoticeUnit.record_atStart]
    exact ⟨⟨nofun, nofun⟩, nofun, Nat.zero_le _, nofun⟩
  nap := by
    refine (napLaw_iff _).mpr ⟨nofun, nofun, fun c => ?_⟩
    have hctx : State.ctx { State.atStart side speed cause q with power := p } c = .atStart := PerCircuit.get_all _ c
    rw [hctx]
    rfl

end Sys2Proof.Machine
end

section
/-!
SUPPORT. What a command leaves: the part as it was, the laws kept by claims on a running part, the part held, or a
start; and the laws after each.
-/

namespace Sys2Proof.Machine

/-! ## The part held (R188, R195) -/

theorem State.hold_sameCalls (s : State) : SameCalls s s.hold :=
  ⟨rfl, fun _ => rfl, fun c => by rw [s.hold_ctx]; exact ⟨rfl, rfl, rfl, rfl, rfl, rfl, rfl, rfl⟩⟩

theorem PoolLaw.hold {s : State} (law : PoolLaw s) : PoolLaw s.hold := law

theorem CallLaw.hold {s : State} (law : CallLaw s) : CallLaw s.hold :=
  fun c => (law c).of_sameCall (s.hold_sameCalls.ctx c)

theorem PortLaw.hold {s : State} (law : PortLaw s) : PortLaw s.hold := ⟨law.1, Nat.zero_le _, nofun⟩

theorem RetryLaw.hold {s : State} (law : RetryLaw s) : RetryLaw s.hold := by
  obtain ⟨hlength, hnumbers, hpointer, hstate, -⟩ := law
  exact ⟨hlength, hnumbers, hpointer, hstate, nofun⟩

theorem NoticeLaw.hold {s : State} (law : NoticeLaw s) : NoticeLaw s.hold := by
  obtain ⟨hlength, hnodup, hpairs, -, hraised⟩ := law
  exact ⟨hlength, hnodup, hpairs, nofun, hraised⟩

theorem NapLaw.hold {s : State} (law : NapLaw s) : NapLaw s.hold := by
  obtain ⟨-, hstill, hadmits⟩ := (napLaw_iff s).mp law
  refine (napLaw_iff _).mpr ⟨nofun, hstill, fun c => ?_⟩
  rw [s.hold_ctx]
  exact hadmits c

/-! ## What a command leaves -/

/-- What one command can leave of the part `s`. -/
inductive Completed (s : State) : State → Prop where
  | still : Completed s s
  | claims {t : State} (running : s.power = .running) (kept : LawsKept s t) : Completed s t
  | held : Completed s s.hold
  | started (side : Side) (speed : LineSpeed) (cause : StartCause) (p : Power) :
    Completed s { State.atStart side speed cause s.pending with power := p }

theorem Completed.ite {s t : State} (h : s.isRunning = true → Completed s t) :
    Completed s (if s.isRunning then t else s) := by
  split
  · next hrunning => exact h hrunning
  · exact .still

theorem Completed.start (s : State) (straps : Straps) (cause : StartCause) : Completed s (s.start straps cause) :=
  .started (sideOfStraps straps) (speedOfStraps straps) cause .running

/-- Every command answers a next state, in one of the four ways. -/
theorem exec_completed (i : Instr) (s : State) : ∃ t, exec i s = .next t ∧ Completed s t := by
  have hline {t : State} (h : LawsKept s t) : Completed s (if s.isRunning then t else s) :=
    .ite fun hrunning => .claims (s.isRunning_iff.mp hrunning) h
  by_cases hhost : isHostRow i = true
  · by_cases hframe : ∃ f, requestFrame i = some f
    · obtain ⟨f, hf⟩ := hframe
      exact ⟨_, exec_of_requestFrame hf s, hline (s.goodFrame_lawsKept _)⟩
    · cases i with
      | hostByteReceived b stopBit => exact ⟨_, rfl, hline (s.hostByte_lawsKept b stopBit)⟩
      | replySent => exact ⟨_, rfl, hline s.replyLeaves_lawsKept⟩
      | restartStart straps =>
        refine ⟨_, rfl, ?_⟩
        split
        · exact .start s straps .request
        · exact .still
      | powerOn straps =>
        refine ⟨_, rfl, ?_⟩
        split
        · exact .start s straps .power
        · exact .started ..
      | resetPinLow => exact ⟨_, rfl, .ite fun _ => .held⟩
      | resetPinHigh straps =>
        refine ⟨_, rfl, ?_⟩
        split
        · exact .still
        · exact .start s straps .power
        · exact .start s straps .pin
      | _ => simp [isHostRow, requestFrame] at hhost hframe
  · obtain ⟨f, hexec, hkeeps⟩ := isClaim_of_not_hostRow (Bool.eq_false_of_not_eq_true hhost)
    exact ⟨_, hexec s, hline (hkeeps s).lawsKept_settle⟩

/-- A law that does not read the waiting commands and that every command keeps is kept by every step. -/
theorem law_of_step {Law : State → Prop} {s t : State} (hpending : ∀ rest, Law s → Law { s with pending := rest })
    (hexec : ∀ s t, Completed s t → Law s → Law t) (law : Law s) (h : step s = .next t) : Law t := by
  unfold step at h
  split at h
  · cases h
    exact law
  · next i rest _ =>
    obtain ⟨u, hnext, hcompleted⟩ := exec_completed i { s with pending := rest }
    cases hnext.symm.trans h
    exact hexec _ _ hcompleted (hpending rest law)

/-! ## Each law after a command -/

theorem Completed.pool {s t : State} (h : Completed s t) (law : PoolLaw s) : PoolLaw t := by
  cases h with
  | still => exact law
  | claims _ kept => exact kept.pool law
  | held => exact law.hold
  | started => exact (Laws.atStart ..).pool

theorem Completed.calls {s t : State} (h : Completed s t) (law : CallLaw s) : CallLaw t := by
  cases h with
  | still => exact law
  | claims _ kept => exact kept.calls law
  | held => exact law.hold
  | started => exact (Laws.atStart ..).calls

theorem Completed.port {s t : State} (h : Completed s t) (law : PortLaw s) : PortLaw t := by
  cases h with
  | still => exact law
  | claims _ kept => exact kept.port law
  | held => exact law.hold
  | started => exact (Laws.atStart ..).port

theorem Completed.nap {s t : State} (h : Completed s t) (law : NapLaw s) : NapLaw t := by
  cases h with
  | still => exact law
  | claims _ kept => exact kept.nap law
  | held => exact law.hold
  | started => exact (Laws.atStart ..).nap

theorem Completed.retry {s t : State} (h : Completed s t) (law : RetryLaw s ∧ NapLaw s) : RetryLaw t ∧ NapLaw t := by
  refine ⟨?_, h.nap law.2⟩
  cases h with
  | still => exact law.1
  | claims running kept => exact kept.retry running law.2 law.1
  | held => exact law.1.hold
  | started => exact (Laws.atStart ..).retry

theorem Completed.notices {s t : State} (h : Completed s t) (law : NoticeLaw s) : NoticeLaw t := by
  cases h with
  | still => exact law
  | claims running kept =>
    obtain ⟨hlawful, hraised⟩ := (noticeLaw_iff running).mp law
    exact (noticeLaw_iff (kept.power.trans running)).mpr ⟨kept.notices hlawful, kept.raised hraised⟩
  | held => exact law.hold
  | started => exact (Laws.atStart ..).notices

theorem Completed.pending {s t : State} (h : Completed s t) : t.pending = s.pending := by
  cases h with
  | still | held | started => rfl
  | claims _ kept => exact kept.pending

end Sys2Proof.Machine
end

section
/-!
THEOREMS. The invariants of the part: the six laws, each kept by every step.
-/

namespace Sys2Proof.Proofs

open Sys2Proof Sys2Proof.Machine

/-- Settles O55: every claim moves cells between their places, a start frees them all, and a hold leaves them. -/
theorem everyStepKeepsThePool : Obligations.EveryStepKeepsThePool := fun _ _ =>
  law_of_step (fun _ => id) fun _ _ => Completed.pool

/-- Settles O56, by what each claim does to the one circuit it touches, and by serving the intake queue until it is
empty or may not be taken. -/
theorem everyStepKeepsTheCallLaws : Obligations.EveryStepKeepsTheCallLaws :=
  ⟨fun _ _ => law_of_step (fun _ => id) fun _ _ => Completed.calls,
    fun _ _ => law_of_step (fun _ => id) fun _ _ => Completed.port⟩

/-- Settles O57, together with the napping laws, which keep a state timer to its trunk state. -/
theorem everyStepKeepsTheRetryLaws : Obligations.EveryStepKeepsTheRetryLaws := fun _ _ hretry hnap h =>
  (law_of_step (Law := fun s => RetryLaw s ∧ NapLaw s) (fun _ => id) (fun _ _ => Completed.retry) ⟨hretry, hnap⟩ h).1

/-- Settles O58: a claim's occurrences are taken at its end, and POLL, DISMISS and MASK refill what they leave. -/
theorem everyStepKeepsTheNoticeLaws : Obligations.EveryStepKeepsTheNoticeLaws := fun _ _ =>
  law_of_step (fun _ => id) fun _ _ => Completed.notices

/-- Settles O59, by the trunk states that each circuit state admits. -/
theorem everyStepKeepsTheNappingLaws : Obligations.EveryStepKeepsTheNappingLaws := fun _ _ =>
  law_of_step (fun _ => id) fun _ _ => Completed.nap

/-- Settles O60: reset is a start. -/
theorem resetMeetsTheLaws : Obligations.ResetMeetsTheLaws :=
  have laws : Laws State.reset := Laws.atStart .a .baud115200 .power [] .running
  ⟨laws.pool, laws.calls, laws.port, laws.retry, laws.notices, laws.nap⟩

/-- Settles O1, by the definition of a step. -/
theorem stepRunsFrontCommand : Obligations.StepRunsFrontCommand := by
  intro s i rest
  exact ⟨fun h => by rw [step, h], fun h => by rw [step, h]⟩

/-- Settles O2, by the four ways in which a command completes. -/
theorem everyCommandCompletes : Obligations.EveryCommandCompletes := by
  intro i s
  obtain ⟨t, hexec, hcompleted⟩ := exec_completed i s
  exact ⟨t, hexec, hcompleted.pending⟩

end Sys2Proof.Proofs
end

section
/-!
SUPPORT. The Host Port: which frames are requests, what the framer does with each byte, and how replies leave.
-/

namespace Sys2Proof.Machine

/-! ## Requests in frames (R179, R193) -/

theorem requestKindOf_eq_some {kind : Byte} {k : RequestKind} (h : requestKindOf kind = some k) :
    requestCode k = kind := by
  simpa using List.find?_some h

theorem requestOf_send (c : Byte) (payload : List Byte) :
    requestOf .send (c :: payload) = if payload.length < 80 then some (.send c payload) else none := rfl

/-- A kind's row of the request table: the lengths it accepts (R193). -/
theorem requestOf_isSome (k : RequestKind) (body : List Byte) :
    (requestOf k body).isSome = acceptsLength k body.length := by
  cases k with
  | send =>
    cases body with
    | nil => rfl
    | cons c payload =>
      have haccepts : acceptsLength .send (c :: payload).length = decide (payload.length < 80) :=
        decide_eq_decide.mpr (by rw [List.length_cons]; omega)
      rw [requestOf_send, haccepts]
      by_cases h : payload.length < 80 <;> simp [h]
  | _ => rcases body with _ | ⟨a, _ | ⟨b, _ | ⟨c, _ | ⟨d, l⟩⟩⟩⟩ <;> rfl

/-- A request that names a circuit checks the number first, in the first byte of its body (R1). -/
theorem handRequest_withCircuit {k : RequestKind} {body : List Byte} {r : Request} (hr : requestOf k body = some r)
    (hk : namesCircuit k = true) (s : State) : ∃ f, handRequest s r = withCircuit (body.headD 0) s f := by
  cases k with
  | send =>
    cases body with
    | nil => cases hr
    | cons c payload =>
      rw [requestOf_send, Option.ite_none_right_eq_some] at hr
      obtain ⟨-, ⟨⟩⟩ := hr
      exact ⟨_, rfl⟩
  | trunkUp | trunkDown | retune | nap | rouse | trunkStatus | poll | mask | dismiss | ident | set | get | counters
  | restart => cases hk
  | dial | accept | refuse | hangup | bar | unbar | quiet | wake | options | circuitStatus | fetch | discard =>
    rcases body with _ | ⟨a, _ | ⟨b, _ | ⟨c, _ | ⟨d, l⟩⟩⟩⟩ <;> cases hr <;> exact ⟨_, rfl⟩

theorem withCircuit_of_out_of_range {b : Byte} (h : 8 ≤ b.toNat) (s : State) (f : CircuitId → Taken) :
    withCircuit b s f = s.refuse .badCircuit := by
  simp [withCircuit, circuitOf, Nat.not_lt.mpr h]

/-- A body its kind accepts no length of. -/
theorem readRequest_of_badLength {kind : Byte} {body : List Byte} {k : RequestKind} (hk : requestKindOf kind = some k)
    (h : acceptsLength k body.length = false) : readRequest kind body = .error .badLength := by
  have hnone : requestOf k body = none := by
    rw [← Option.isNone_iff_eq_none, ← Option.not_isSome, requestOf_isSome, h]
    rfl
  rw [readRequest, hk]
  simp only [hnone]

theorem readRequest_of_accepted {kind : Byte} {body : List Byte} {k : RequestKind} (hk : requestKindOf kind = some k)
    (h : acceptsLength k body.length = true) : ∃ r, requestOf k body = some r ∧ readRequest kind body = .ok r := by
  obtain ⟨r, hr⟩ := Option.isSome_iff_exists.mp ((requestOf_isSome k body).trans h)
  refine ⟨r, hr, ?_⟩
  rw [readRequest, hk]
  simp only [hr]

theorem readRequest_of_unknown {kind : Byte} (h : requestKindOf kind = none) (body : List Byte) :
    readRequest kind body = .error .unknown := by
  rw [readRequest, h]

/-- A request that fails one of the port's two checks at a ready part is refused. -/
theorem exec_of_readRequest_error {i : Instr} {f : HostFrame} {st : Status} {s : State} (h : PortReady s)
    (hf : requestFrame i = some f) (hr : readRequest f.kind f.body = .error st) :
    exec i s = .next (s.answered st f.tag []).settle := by
  rw [exec_of_requestFrame hf, State.hostFrame_ready h, State.judge, hr, State.refuse_reply]

/-! ## Waiting and overrun (R177, R178) -/

theorem State.goodFrame_waits {s : State} (hroom : s.port.intake.length < 4) (h : s.port.mayTake = false)
    (f : HostFrame) : s.goodFrame f = s.setIntake (s.port.intake ++ [f]) := by
  refine (if_pos hroom).trans ?_
  rw [State.serve]
  split
  · rfl
  · exact if_neg (Bool.eq_false_iff.mp h)

theorem State.goodFrame_overrun {s : State} (h : 4 ≤ s.port.intake.length) (f : HostFrame) :
    s.goodFrame f =
      (State.report { s with port := { s.port with overruns := min (s.port.overruns + 1) 65535 } } .portError).settle :=
  if_neg (Nat.not_lt.mpr h)

theorem State.hostFrame_running {s : State} (h : s.power = .running) (kind tag : Byte) (body : List Byte) :
    s.hostFrame kind tag body = .next (s.goodFrame ⟨kind, tag, body⟩) := by
  rw [State.hostFrame, if_pos (s.isRunning_iff.mpr h)]

theorem HostPort.mayTake_eq_false_iff (p : HostPort) :
    p.mayTake = false ↔ 4 ≤ p.replies.length ∨ p.restart ≠ .none := by
  rw [← Bool.not_eq_true, HostPort.mayTake_iff, not_and_or, not_lt]

/-! ## The framer (R174 to R176) -/

theorem exec_hostByteReceived {s : State} (h : s.power = .running) (b : Byte) (stop : Bool) :
    exec (.hostByteReceived b stop) s = .next (s.hostByte b stop) :=
  congrArg Host.Outcome.next (if_pos (s.isRunning_iff.mpr h))

theorem isLength_iff (b : Byte) : isLength b = true ↔ 2 ≤ b.toNat ∧ b.toNat ≤ 82 := decide_eq_true_iff

section
variable {s : State}

theorem State.hostByte_hunting (h : s.port.framer = .hunting) (b : Byte) (stop : Bool) :
    s.hostByte b stop = if b = 0xA5 ∧ stop = true then s.setFramer .awaitingLength else s := by
  rw [State.hostByte, h]
  simp only [Bool.and_eq_true, beq_iff_eq, and_comm]
  rfl

theorem State.hostByte_length (h : s.port.framer = .awaitingLength) {b : Byte} (hb : isLength b = true) :
    s.hostByte b true = s.setFramer (.collecting b []) := by
  rw [State.hostByte, h]
  simp only [hb, Bool.and_self, if_true]

theorem State.hostByte_badLength (h : s.port.framer = .awaitingLength) {b : Byte} (hb : isLength b = false) :
    s.hostByte b true = s.discardFrame.settle := by
  rw [State.hostByte, h]
  simp only [hb, Bool.and_false, Bool.false_eq_true, if_false]

theorem State.hostByte_collecting {n : Byte} {bytes : List Byte} (h : s.port.framer = .collecting n bytes) (b : Byte) :
    s.hostByte b true =
      if bytes.length + 1 < n.toNat then s.setFramer (.collecting n (bytes ++ [b]))
      else s.setFramer (.awaitingCheck n (bytes ++ [b]) none) := by
  rw [State.hostByte, h]
  rfl

theorem State.hostByte_firstCheck {n : Byte} {bytes : List Byte} (h : s.port.framer = .awaitingCheck n bytes none)
    (b : Byte) : s.hostByte b true = s.setFramer (.awaitingCheck n bytes (some b)) := by
  rw [State.hostByte, h]
  rfl

theorem State.hostByte_secondCheck {n low : Byte} {bytes : List Byte}
    (h : s.port.framer = .awaitingCheck n bytes (some low)) (b : Byte) :
    s.hostByte b true = s.checkFrame n bytes low b := by
  rw [State.hostByte, h]
  rfl

theorem State.hostByte_noStopBit (h : s.port.framer ≠ .hunting) (b : Byte) :
    s.hostByte b false = s.discardFrame.settle := by
  cases hf : s.port.framer with
  | hunting => exact absurd hf h
  | awaitingLength => rw [State.hostByte, hf]; rfl
  | collecting n bytes => rw [State.hostByte, hf]; rfl
  | awaitingCheck n bytes low => cases low <;> rw [State.hostByte, hf] <;> rfl

theorem State.gapExpires_hunting (h : s.port.framer = .hunting) : s.gapExpires = s := by
  rw [State.gapExpires, h]
  rfl

theorem State.gapExpires_inside (h : s.port.framer ≠ .hunting) : s.gapExpires = s.discardFrame := by
  rw [State.gapExpires]
  cases hf : s.port.framer with
  | hunting => exact absurd hf h
  | awaitingLength | collecting | awaitingCheck => rfl

theorem State.checkFrame_wrong {n low high : Byte} {bytes : List Byte} (h : le16 (crc16 (n :: bytes)) ≠ [low, high]) :
    s.checkFrame n bytes low high = s.discardFrame.settle := by
  rcases bytes with _ | ⟨kind, _ | ⟨tag, body⟩⟩
  · rfl
  · rfl
  · exact if_neg h

end

/-! ## The bytes of a frame, one after another (R174) -/

theorem feed_cons {s : State} (h : s.power = .running) (b : Byte) (rest : List Byte) :
    feed s (b :: rest) = feed (s.hostByte b true) rest := by
  rw [feed, exec_hostByteReceived h]

theorem feed_setFramer_cons {s : State} (h : s.power = .running) (f : Framer) (b : Byte) (rest : List Byte) :
    feed (s.setFramer f) (b :: rest) = feed ((s.setFramer f).hostByte b true) rest :=
  feed_cons (s := s.setFramer f) h b rest

/-- The framer collects the bytes its LENGTH announces. -/
theorem feed_collecting {s : State} (h : s.power = .running) {n : Byte} (more : List Byte) {bytes : List Byte}
    (b : Byte)
    (hlength : bytes.length + more.length + 1 = n.toNat) (tail : List Byte) :
    feed (s.setFramer (.collecting n bytes)) (b :: more ++ tail) =
      feed (s.setFramer (.awaitingCheck n (bytes ++ b :: more) none)) tail := by
  induction more generalizing bytes b with
  | nil =>
    rw [List.cons_append, feed_setFramer_cons h, State.hostByte_collecting rfl, if_neg (by simp at hlength; omega)]
    rfl
  | cons b' more ih =>
    rw [List.length_cons] at hlength
    rw [List.cons_append, feed_setFramer_cons h, State.hostByte_collecting rfl, if_pos (by omega)]
    refine (ih b' (bytes := bytes ++ [b]) (by simp; omega)).trans ?_
    rw [List.append_assoc, List.singleton_append]

/-- The two bytes of a check value. -/
theorem le16_eq (w : BitVec 16) : le16 w = [w.setWidth 8, (w >>> 8).setWidth 8] := rfl

/-- A good frame's bytes at a framer that hunts are its arrival. -/
theorem feed_hostFrameBytes {s : State} (h : s.power = .running) (hf : s.port.framer = .hunting) (kind tag : Byte)
    {body : List Byte} (hbody : body.length ≤ 80) :
    feed s (hostFrameBytes kind tag body) = .next (s.goodFrame ⟨kind, tag, body⟩) := by
  have hn : (count8 (body.length + 2)).toNat = body.length + 2 := by
    rw [count8, BitVec.toNat_ofNat]
    omega
  have hlength : isLength (count8 (body.length + 2)) = true := by
    rw [isLength_iff]
    omega
  have hs : s.setFramer .hunting = s := by
    rw [← hf]
    rfl
  generalize hcheck : crc16 (hostCovered kind tag body) = w
  calc feed s (hostFrameBytes kind tag body)
      = feed (s.setFramer .awaitingLength)
          (count8 (body.length + 2) :: (kind :: (tag :: body) ++ le16 w)) := by
        rw [hostFrameBytes, hcheck, List.cons_append, feed_cons h, State.hostByte_hunting hf, if_pos ⟨rfl, rfl⟩]
        rfl
    _ = feed (s.setFramer (.collecting (count8 (body.length + 2)) [])) (kind :: (tag :: body) ++ le16 w) := by
        rw [feed_setFramer_cons h, State.hostByte_length rfl hlength]
        rfl
    _ = feed (s.setFramer (.awaitingCheck (count8 (body.length + 2)) (kind :: tag :: body) none)) (le16 w) :=
        feed_collecting h (tag :: body) kind (by rw [hn, List.length_cons, List.length_nil]; omega) _
    _ = .next (s.goodFrame ⟨kind, tag, body⟩) := by
        rw [le16_eq, feed_setFramer_cons h, State.hostByte_firstCheck rfl,
          feed_cons (by exact h), State.hostByte_secondCheck rfl,
          State.checkFrame]
        refine (congrArg (feed · []) (if_pos (by rw [← le16_eq, ← hcheck]; rfl))).trans ?_
        exact congrArg (fun u => Host.Outcome.next (State.goodFrame u ⟨kind, tag, body⟩)) hs

/-- The frame of a request row and the row of a frame. -/
theorem requestFrame_requestRow (kind tag : Byte) (body : List Byte) :
    requestFrame (requestRow kind tag body) = some ⟨kind, tag, body⟩ := by
  cases hk : requestKindOf kind with
  | none => rw [requestRow, hk, requestFrame]
  | some k =>
    rw [requestRow, hk, ← requestKindOf_eq_some hk]
    cases k <;> rfl

/-! ## Replies (R180, R190) -/

theorem State.htx_running {s : State} (h : s.power = .running) : s.htx = s.port.replies.head?.map Reply.frameBytes :=
  (State.outputs_running h).1

theorem exec_replySent {s : State} (h : s.power = .running) : exec .replySent s = .next s.replyLeaves :=
  congrArg Host.Outcome.next (if_pos (s.isRunning_iff.mpr h))

theorem State.serve_of_not_mayTake {s : State} (h : s.port.mayTake = false) (n : Nat) : s.serve n = s := by
  cases n with
  | zero => rfl
  | succ n =>
    rw [State.serve]
    split
    · rfl
    · exact if_neg (Bool.eq_false_iff.mp h)

/-- With three replies behind the head and no RESTART waiting, exactly the head of the intake queue is taken. -/
theorem State.serve_one {s : State} {f : HostFrame} {q : List HostFrame} (hintake : s.port.intake = f :: q)
    (hreplies : s.port.replies.length = 3) (hrestart : s.port.restart = .none) :
    s.serve s.port.intake.length = ((s.setIntake q).takeRequest f).settle := by
  have hmay : s.port.mayTake = true := (s.port.mayTake_iff).mpr ⟨by omega, hrestart⟩
  have hfull : ((s.setIntake q).takeRequest f).settle.port.mayTake = false := by
    rw [HostPort.mayTake_eq_false_iff, State.settle_port, State.takeRequest_replies_length]
    exact .inl (Nat.succ_le_succ hreplies.ge)
  rw [hintake, List.length_cons, State.serve, hintake]
  simp only
  rw [if_pos hmay, State.serve_of_not_mayTake hfull]

/-! ## IDENT (R186) -/

theorem HostPort.identity_eq (p : HostPort) :
    p.identity =
      [0x71, 0x0C, 0x08, 1, if p.side = .a then 0 else 1,
       match p.speed with
       | .baud115200 => 0
       | .baud460800 => 1
       | .baud921600 => 2
       | .baud3000000 => 3,
       1,
       match p.startCause with
       | .power => 0
       | .pin => 1
       | .request => 2,
       if p.freshStart = true then 1 else 0] := by
  have hside : sideCode p.side = if p.side = .a then 0 else 1 := by cases p.side <;> rfl
  rw [HostPort.identity, hside]
  rfl

/-! ## Refusals (R181) -/

/-- The request is refused only with nothing changed. -/
def Taken.Refuses (t : Taken) (s : State) : Prop := t.status ≠ .ok → t = s.refuse t.status

@[simp] theorem State.refuse_refuses (s : State) (st : Status) : (s.refuse st).Refuses s := fun _ => rfl

@[simp] theorem State.answering_refuses (s t : State) (body : List Byte) : (t.answering body).Refuses s :=
  fun h => absurd rfl h

@[simp] theorem State.taken_refuses (s t : State) : t.taken.Refuses s := fun h => absurd rfl h

theorem Taken.Refuses.ite {s : State} {t u : Taken} {p : Prop} [Decidable p] (h : t.Refuses s) (k : u.Refuses s) :
    (if p then t else u).Refuses s := by
  split
  · exact h
  · exact k

theorem Taken.Refuses.checked {s t : State} (o : Option Status) :
    Taken.Refuses (match o with | some st => s.refuse st | none => t.taken) s := by
  cases o with
  | none => exact s.taken_refuses t
  | some st => exact s.refuse_refuses st

theorem withCircuit_refuses {s : State} (b : Byte) {f : CircuitId → Taken} (h : ∀ c, (f c).Refuses s) :
    (withCircuit b s f).Refuses s := by
  unfold withCircuit
  split
  · exact h _
  · exact s.refuse_refuses _

theorem hangupQuiet_refuses (s : State) (c : CircuitId) : (hangupQuiet c s).Refuses s := by
  have hheld (t : State) : (if (s.slots c).releaseHeld then s.refuse .badState else t.taken).Refuses s :=
    .ite (s.refuse_refuses _) (s.taken_refuses _)
  unfold hangupQuiet
  split <;> simp [hheld]

theorem hangupRequest_refuses (s : State) (c : CircuitId) : (hangupRequest c s).Refuses s := by
  have hwaking : (hangupWaking c s).Refuses s := .ite (s.refuse_refuses _) (s.taken_refuses _)
  unfold hangupRequest
  split <;> simp [hangupQuiet_refuses, hwaking]

theorem wakeRequest_refuses (s : State) (c : CircuitId) : (wakeRequest c s).Refuses s := by
  refine .ite (s.refuse_refuses _) ?_
  split <;> simp

theorem trunkUpRequest_refuses (s : State) : (trunkUpRequest s).Refuses s := by
  have hhold (t : State) : (if s.link.holdElapsed then t.taken else s.refuse .holding).Refuses s :=
    .ite (s.taken_refuses _) (s.refuse_refuses _)
  unfold trunkUpRequest
  split <;> simp [hhold]

theorem trunkDownRequest_refuses (s : State) : (trunkDownRequest s).Refuses s := by
  have hhold (t : State) : (if s.link.holdElapsed then t.taken else s.refuse .holding).Refuses s :=
    .ite (s.taken_refuses _) (s.refuse_refuses _)
  unfold trunkDownRequest
  split <;> simp [hhold]

theorem optionsRequest_refuses (s : State) (c : CircuitId) (a w : Byte) : (optionsRequest c a w s).Refuses s := by
  unfold optionsRequest
  split
  · exact .ite (s.taken_refuses _) (s.refuse_refuses _)
  · exact s.refuse_refuses _

theorem fetchRequest_refuses (s : State) (c : CircuitId) : (fetchRequest c s).Refuses s := by
  unfold fetchRequest
  split <;> simp

theorem discardRequest_refuses (s : State) (c : CircuitId) (choice : Byte) : (discardRequest c choice s).Refuses s := by
  unfold discardRequest
  split
  · exact s.refuse_refuses _
  · exact .ite (s.refuse_refuses _) (s.answering_refuses _ _)

theorem maskRequest_refuses (s : State) (source kind setting : Byte) :
    (maskRequest source kind setting s).Refuses s := by
  unfold maskRequest
  split <;> simp

theorem dismissRequest_refuses (s : State) (source kind : Byte) : (dismissRequest source kind s).Refuses s := by
  unfold dismissRequest
  split <;> simp

theorem setRequest_refuses (s : State) (n low high : Byte) : (setRequest n low high s).Refuses s := by
  unfold setRequest
  split
  · exact .ite (s.answering_refuses _ _) (s.refuse_refuses _)
  · exact s.refuse_refuses _

theorem getRequest_refuses (s : State) (n : Byte) : (getRequest n s).Refuses s := by
  unfold getRequest
  split <;> simp

theorem countersRequest_refuses (s : State) (flag : Byte) : (countersRequest flag s).Refuses s := by
  unfold countersRequest
  split <;> simp

/-- Every request but SEND is refused only with nothing changed. -/
theorem handRequest_refuses (s : State) {r : Request} (hsend : ∀ b payload, r ≠ .send b payload) :
    (handRequest s r).Refuses s := by
  cases r with
  | send b payload => exact absurd rfl (hsend b payload)
  | trunkUp => exact trunkUpRequest_refuses s
  | trunkDown => exact trunkDownRequest_refuses s
  | retune => exact .ite (s.taken_refuses _) (s.refuse_refuses _)
  | nap => exact .checked _
  | rouse => exact .ite (s.taken_refuses _) (s.refuse_refuses _)
  | trunkStatus | poll | ident => exact s.answering_refuses _ _
  | restart => exact s.taken_refuses _
  | dial b w d => exact withCircuit_refuses b fun _ => .checked _
  | accept b w d => exact withCircuit_refuses b fun _ => .checked _
  | quiet b => exact withCircuit_refuses b fun _ => .checked _
  | refuse b => exact withCircuit_refuses b fun _ => .ite (s.taken_refuses _) (s.refuse_refuses _)
  | bar b => exact withCircuit_refuses b fun _ => .ite (s.taken_refuses _) (s.refuse_refuses _)
  | unbar b => exact withCircuit_refuses b fun _ => .ite (s.taken_refuses _) (s.refuse_refuses _)
  | hangup b => exact withCircuit_refuses b (hangupRequest_refuses s)
  | wake b => exact withCircuit_refuses b (wakeRequest_refuses s)
  | options b a w => exact withCircuit_refuses b fun c => optionsRequest_refuses s c a w
  | circuitStatus b => exact withCircuit_refuses b fun _ => s.answering_refuses _ _
  | fetch b => exact withCircuit_refuses b (fetchRequest_refuses s)
  | discard b choice => exact withCircuit_refuses b fun c => discardRequest_refuses s c choice
  | mask source kind setting => exact maskRequest_refuses s source kind setting
  | dismiss source kind => exact dismissRequest_refuses s source kind
  | set n low high => exact setRequest_refuses s n low high
  | get n => exact getRequest_refuses s n
  | counters flag => exact countersRequest_refuses s flag

/-- A request of KIND 0x20 is a SEND, and no other is. -/
theorem send_iff_of_readRequest {kind : Byte} {body : List Byte} {r : Request} (h : readRequest kind body = .ok r) :
    (kind = 0x20 ∧ ∃ b payload, r = .send b payload ∧ body = b :: payload)
      ∨ (kind ≠ 0x20 ∧ ∀ b payload, r ≠ .send b payload) := by
  unfold readRequest at h
  split at h
  · cases h
  · next k hk =>
    split at h
    · cases h
    · next r' hr =>
      cases h
      rw [← requestKindOf_eq_some hk]
      cases k with
      | send =>
        cases body with
        | nil => cases hr
        | cons b payload =>
          rw [requestOf_send, Option.ite_none_right_eq_some] at hr
          obtain ⟨-, ⟨⟩⟩ := hr
          exact .inl ⟨rfl, b, payload, rfl, rfl⟩
      | _ =>
        refine .inr ⟨by decide, ?_⟩
        rcases body with _ | ⟨a, _ | ⟨b, _ | ⟨c, _ | ⟨d, l⟩⟩⟩⟩ <;> cases hr <;> nofun

/-- A SEND is refused with nothing changed, or for want of room with its circuit's refused marker set (R72). -/
theorem sendRequest_refuses (s : State) (c : CircuitId) (payload : Payload)
    (h : (sendRequest c payload s).status ≠ .ok) :
    (((sendRequest c payload s).status = .queueFull ∨ (sendRequest c payload s).status = .noBuffer) ∧
        sendRequest c payload s =
          (s.setCtx c { s.ctx c with refusedMarker := true }).refuse (sendRequest c payload s).status)
      ∨ (¬ ((sendRequest c payload s).status = .queueFull ∨ (sendRequest c payload s).status = .noBuffer) ∧
        sendRequest c payload s = s.refuse (sendRequest c payload s).status) := by
  unfold sendRequest at h ⊢
  cases hst : s.sendRefusal c payload with
  | none =>
    rw [hst] at h
    exact absurd rfl h
  | some st => cases st <;> simp [setsRefusedMarker, State.refuse]

/-- What a refusal leaves: nothing changed, or for a SEND without room the refused marker of its circuit (R72, R181). -/
theorem judge_refused {s : State} {f : HostFrame} {t : Taken} (ht : s.judge f.kind f.body = t) (h : t.status ≠ .ok) :
    (¬ (f.kind = 0x20 ∧ (t.status = .queueFull ∨ t.status = .noBuffer)) ∧ t = s.refuse t.status)
      ∨ ((f.kind = 0x20 ∧ (t.status = .queueFull ∨ t.status = .noBuffer)) ∧
        ∃ c, circuitOf (f.body.headD 0) = some c
          ∧ t = (s.setCtx c { s.ctx c with refusedMarker := true }).refuse t.status) := by
  unfold State.judge at ht
  cases hread : readRequest f.kind f.body with
  | error st =>
    obtain rfl : t = s.refuse st := by rw [← ht, hread]
    refine .inl ⟨?_, rfl⟩
    have hst : st = .unknown ∨ st = .badLength := by
      unfold readRequest at hread
      split at hread
      · cases hread
        exact .inl rfl
      · split at hread
        · cases hread
          exact .inr rfl
        · cases hread
    obtain rfl | rfl := hst <;> simp [State.refuse]
  | ok r =>
    obtain rfl : t = handRequest s r := by rw [← ht, hread]
    clear ht
    obtain ⟨hkind, b, payload, rfl, hbody⟩ | ⟨hkind, hsend⟩ := send_iff_of_readRequest hread
    · rw [hbody, List.headD_cons]
      cases hc : circuitOf b with
      | none =>
        have hbad : handRequest s (.send b payload) = s.refuse .badCircuit := by rw [handRequest, withCircuit, hc]
        rw [hbad]
        exact .inl ⟨by simp [State.refuse], rfl⟩
      | some c =>
        have hsend : handRequest s (.send b payload) = sendRequest c payload s := by rw [handRequest, withCircuit, hc]
        rw [hsend] at h ⊢
        obtain ⟨hroom, heq⟩ | ⟨hroom, heq⟩ := sendRequest_refuses s c payload h
        · exact .inr ⟨⟨hkind, hroom⟩, c, rfl, heq⟩
        · exact .inl ⟨fun hboth => hroom hboth.2, heq⟩
    · exact .inl ⟨fun hboth => hkind hboth.1, handRequest_refuses s hsend h⟩

/-- A part that does not run takes no row but a start. -/
theorem exec_held {s : State} (h : s.power ≠ .running) {i : Instr} (hi : isStart i = false) : exec i s = .next s := by
  have hnot : ¬ s.isRunning = true := mt s.isRunning_iff.mp h
  by_cases hhost : isHostRow i = true
  · by_cases hframe : ∃ f, requestFrame i = some f
    · obtain ⟨f, hf⟩ := hframe
      rw [exec_of_requestFrame hf, State.hostFrame, if_neg hnot]
    · cases i with
      | hostByteReceived | replySent | resetPinLow => exact congrArg Host.Outcome.next (if_neg hnot)
      | restartStart => exact congrArg Host.Outcome.next (if_neg fun hboth => hnot hboth.1)
      | powerOn | resetPinHigh => cases hi
      | _ => simp [isHostRow, requestFrame] at hhost hframe
  · obtain ⟨f, hexec, -⟩ := isClaim_of_not_hostRow (Bool.eq_false_of_not_eq_true hhost)
    rw [hexec, State.event_held h]

end Sys2Proof.Machine
end

section
/-!
THEOREMS. The Host Port's line: reset, waiting and overrun, the port's checks, the framer and the replies.
-/

namespace Sys2Proof.Proofs

open Sys2Proof Sys2Proof.Machine

/-- Settles O4, by the definition of each start. -/
theorem startsSampleStrapsAndCause : Obligations.StartsSampleStrapsAndCause := by
  intro s p started
  have hstart (cause : StartCause) : s.start p cause = started cause := rfl
  refine ⟨fun h => ?_, fun h => ?_, fun h => ?_, fun h hleft => ?_, fun h => ?_, fun h => ?_, fun h => ?_⟩
  · rw [← hstart]
    exact congrArg Host.Outcome.next (if_pos (s.isRunning_iff.mpr h))
  · rw [← hstart, exec, execResetPinHigh, h]
  · rw [← hstart, exec, execResetPinHigh, h]
  · rw [← hstart]
    exact congrArg Host.Outcome.next (if_pos ⟨s.isRunning_iff.mpr h, hleft⟩)
  · exact congrArg Host.Outcome.next (if_neg (mt s.isRunning_iff.mp h))
  · rw [exec, execResetPinHigh, h]
  · exact congrArg Host.Outcome.next (if_neg fun hboth => h hboth.2)

/-- Settles O5: on a part that does not run every row but a start is guarded by the part running. -/
theorem lowResetHoldsThePart : Obligations.LowResetHoldsThePart := by
  refine ⟨fun s h => ?_, fun s h => State.outputs_held h, fun i s h hi => ?_⟩
  · exact congrArg Host.Outcome.next (if_pos (s.isRunning_iff.mpr h))
  · exact exec_held h hi

/-- Settles O6: the frame joins the intake queue, of which none may be taken, or finds it full. -/
theorem requestsWaitOrOverrun : Obligations.RequestsWaitOrOverrun := by
  intro s i f hf h
  rw [exec_of_requestFrame hf, State.hostFrame_running h]
  refine ⟨fun hroom hwait => ?_, fun hfull => ?_⟩
  · rw [State.goodFrame_waits hroom ((HostPort.mayTake_eq_false_iff _).mpr hwait)]
    rfl
  · rw [State.goodFrame_overrun hfull]

/-- Settles O7, by the three checks in their order. -/
theorem portRefusesMalformedRequests : Obligations.PortRefusesMalformedRequests := by
  intro s i f hf hready
  refine ⟨fun hunknown => ?_, fun k hk => ⟨fun hlength => ?_, fun hlength hcircuit hout => ?_⟩⟩
  · exact exec_of_readRequest_error hready hf (readRequest_of_unknown hunknown _)
  · exact exec_of_readRequest_error hready hf (readRequest_of_badLength hk hlength)
  · obtain ⟨r, hr, hread⟩ := readRequest_of_accepted hk hlength
    obtain ⟨g, hg⟩ := handRequest_withCircuit hr hcircuit s
    rw [exec_of_readRequest hready hf hread, hg, withCircuit_of_out_of_range hout, State.refuse_reply]

/-- Settles O8: every request keeps the reply queue, and each is refused with nothing changed but SEND. -/
theorem oneReplyForEachRequest : Obligations.OneReplyForEachRequest := by
  intro s i f hf hready
  have hkeeps := s.judge_keeps f.kind f.body
  generalize ht : s.judge f.kind f.body = t at hkeeps
  refine ⟨(t.reply f.tag).settle, ⟨t.status, f.tag, t.body⟩, ?_, ?_, rfl, fun hrefused => ?_⟩
  · rw [exec_of_requestFrame hf, State.hostFrame_ready hready, ht]
  · rw [State.settle_port, Taken.reply, hkeeps.replies]
  · intro noRoom
    obtain ⟨hroom, heq⟩ | ⟨hroom, c, hc, heq⟩ := judge_refused ht hrefused
    · exact ⟨congrArg Taken.body heq, fun _ => congrArg (fun u => (Taken.reply u f.tag).settle) heq,
        fun hno => absurd hno hroom⟩
    · exact ⟨congrArg Taken.body heq, fun hno => absurd hroom hno,
        fun _ => ⟨c, hc, congrArg (fun u => (Taken.reply u f.tag).settle) heq⟩⟩

/-- Settles O9, by induction on the bytes that LENGTH announces. -/
theorem hostBytesMakeTheRequest : Obligations.HostBytesMakeTheRequest := by
  intro s kind tag body h hhunting hbody
  rw [exec_of_requestFrame (requestFrame_requestRow kind tag body), State.hostFrame_running h,
    feed_hostFrameBytes h hhunting kind tag hbody]

/-- Settles O10, by the framer's state and the stop bit. -/
theorem framerTakesAndDiscardsBytes : Obligations.FramerTakesAndDiscardsBytes := by
  refine ⟨fun s b stop n bytes h => ?_, fun s b n low bytes h => ?_⟩
  · intro becomes
    have hgap : exec .gapTimerExpiry s = .next s.gapExpires.settle := State.event_running h _
    refine ⟨fun hf => ?_, fun hf hleast hgreatest => ?_, fun hf => ?_, fun hf => ?_, fun hf => ?_⟩
    · rw [exec_hostByteReceived h, State.hostByte_hunting hf]
      exact apply_ite Host.Outcome.next ..
    · rw [exec_hostByteReceived h, State.hostByte_length hf ((isLength_iff b).mpr ⟨hleast, hgreatest⟩)]
      rfl
    · rw [exec_hostByteReceived h, State.hostByte_collecting hf]
      exact apply_ite Host.Outcome.next ..
    · rw [exec_hostByteReceived h, State.hostByte_firstCheck hf]
      rfl
    · rw [hgap, State.gapExpires_hunting hf]
  · intro discarded
    have hgap : exec .gapTimerExpiry s = .next s.gapExpires.settle := State.event_running h _
    have hdiscarded : Host.Outcome.next s.discardFrame.settle = discarded := rfl
    refine ⟨fun hf hout => ?_, fun hf => ?_, fun hf => ?_, fun hf hcheck => ?_⟩
    · have hb : isLength b = false := by
        rw [← Bool.not_eq_true, isLength_iff]
        omega
      rw [exec_hostByteReceived h, State.hostByte_badLength hf hb, hdiscarded]
    · rw [exec_hostByteReceived h, State.hostByte_noStopBit hf, hdiscarded]
    · rw [hgap, State.gapExpires_inside hf, hdiscarded]
    · rw [exec_hostByteReceived h, State.hostByte_secondCheck hf, State.checkFrame_wrong hcheck, hdiscarded]

/-- Settles O11: what waits is served once there is room, and a waiting RESTART stops that. -/
theorem repliesLeaveAndRestartWaits : Obligations.RepliesLeaveAndRestartWaits := by
  refine ⟨fun s r rest h => ⟨fun hnone => ?_, fun hcons hrestart hintake => ?_,
      fun hcons hrestart hthree f q hintake => ?_,
    fun hcons hrestart => ?_⟩, fun s h => ⟨fun hnone => ?_, fun r rest hcons => ?_⟩, fun s tag hready => ?_⟩
  · rw [exec_replySent h, State.replyLeaves_nil hnone]
  · rw [exec_replySent h, State.replyLeaves_cons hcons, if_neg (by rw [hrestart]; nofun),
      State.serve_nil (s := s.setReplies rest) hintake]
    rfl
  · rw [exec_replySent h, State.replyLeaves_cons hcons, if_neg (by rw [hrestart]; nofun)]
    exact congrArg Host.Outcome.next (State.serve_one (s := s.setReplies rest) hintake hthree hrestart)
  · rw [exec_replySent h, State.replyLeaves_cons hcons]
    by_cases hlast : rest = []
    · rw [if_pos ⟨hrestart, hlast⟩, if_pos hlast]
    · have hstops : (s.setReplies rest).port.mayTake = false := by
        rw [HostPort.mayTake_eq_false_iff]
        exact .inr fun hnone => nomatch hrestart.symm.trans hnone
      rw [if_neg fun hboth => hlast hboth.2, if_neg hlast, State.serve_of_not_mayTake hstops, ← hrestart]
      rfl
  · rw [State.htx_running h, hnone]
    rfl
  · intro code covered
    rw [State.htx_running h, hcons, List.head?_cons, Option.map_some]
    rfl
  · rw [exec_of_readRequest hready rfl rfl, handRequest, restartRequest, State.taken_reply]

/-- Settles O12, by the flag of COUNTERS. -/
theorem identAndCountersReply : Obligations.IdentAndCountersReply := by
  refine ⟨fun s tag hready => ?_, fun s tag flag hready => ?_⟩
  · rw [exec_of_readRequest hready rfl rfl, handRequest, identRequest, State.answering_reply]
    exact congrArg (fun body => Host.Outcome.next (State.answered _ .ok tag body).settle) s.port.identity_eq
  intro reply
  refine ⟨fun hflag => ?_, fun hflag => ?_, fun hzero hone => ?_⟩
  · subst hflag
    rw [exec_of_readRequest hready rfl rfl]
    rfl
  · subst hflag
    rw [exec_of_readRequest hready rfl rfl]
    rfl
  · rw [exec_of_readRequest hready rfl rfl, handRequest, countersRequest, settingOf, if_neg hzero, if_neg hone]
    rfl

end Sys2Proof.Proofs
end

section
/-!
SUPPORT. Parameters and statuses: the Parameter Table's ranges, the timers a parameter governs, and the status bytes.
-/

namespace Sys2Proof.Machine

/-! ## SET (R182, R184) -/

theorem count16_valueOf16 (low high : Byte) : count16 (valueOf16 low high) = [low, high] := by
  have hlow : (BitVec.ofNat 16 (valueOf16 low high)).setWidth 8 = low := by
    apply BitVec.eq_of_toNat_eq
    simp only [valueOf16, BitVec.toNat_setWidth, BitVec.toNat_ofNat]
    omega
  have hhigh : (BitVec.ofNat 16 (valueOf16 low high) >>> 8).setWidth 8 = high := by
    apply BitVec.eq_of_toNat_eq
    simp only [valueOf16, BitVec.toNat_setWidth, BitVec.toNat_ushiftRight, BitVec.toNat_ofNat,
      Nat.shiftRight_eq_div_pow]
    omega
  rw [count16, le16_eq, hlow, hhigh]

theorem setRequest_unnamed {n : Byte} (h : paramOf n = none) (low high : Byte) (s : State) :
    setRequest n low high s = s.refuse .badValue := by rw [setRequest, h]

theorem setRequest_named {n : Byte} {p : Param} (h : paramOf n = some p) (low high : Byte) (s : State) :
    setRequest n low high s =
      if inRange p (valueOf16 low high) then
        (s.setParameter p (valueOf16 low high)).answering [n, low, high]
      else s.refuse .badValue := by rw [setRequest, h, count16_valueOf16]

/-! ## The timers a parameter governs (R185) -/

/-- What a changed parameter restarts of a circuit. -/
def Context.restartFor (p : Param) (v : Nat) (x : Context) : Context :=
  { x with
    timer :=
      match p, x.timer with
      | .dialTimeout, .dial _ => .dial v
      | .ringTimeout, .ring _ => .ring v
      | _, timer => timer
    holdoff := if p = .quietHoldoff then x.holdoff.map fun _ => v else x.holdoff }

/-- What a changed parameter restarts of the Link Controller. -/
def LinkController.restartFor (p : Param) (v : Nat) (l : LinkController) : LinkController :=
  { l with
    repeatTimer := if p = .helloInterval then l.repeatTimer.map fun _ => v else l.repeatTimer
    stateTimer := l.stateTimer.map fun t => if governs p t.kind = true then ⟨t.kind, v⟩ else t }

/-- The parameters that govern no timer of a circuit. -/
theorem Context.restartFor_of_ne {p : Param} (hdial : p ≠ .dialTimeout) (hring : p ≠ .ringTimeout)
    (hquiet : p ≠ .quietHoldoff) (v : Nat) : Context.restartFor p v = id := by
  funext x
  unfold Context.restartFor
  rw [if_neg hquiet]
  split
  · exact absurd rfl hdial
  · exact absurd rfl hring
  · rfl

theorem PerCircuit.map_restartFor_of_ne {p : Param} (hdial : p ≠ .dialTimeout) (hring : p ≠ .ringTimeout)
    (hquiet : p ≠ .quietHoldoff) (v : Nat) (m : PerCircuit Context) : m.map (Context.restartFor p v) = m := by
  rw [Context.restartFor_of_ne hdial hring hquiet]
  rfl

theorem Context.restartFor_dial (v : Nat) : Context.restartFor .dialTimeout v = fun x => x.restartDial v := by
  funext x
  obtain ⟨⟩ := x
  unfold Context.restartDial
  split
  all_goals
    next htimer =>
      cases htimer
      rfl

theorem Context.restartFor_ring (v : Nat) : Context.restartFor .ringTimeout v = fun x => x.restartRing v := by
  funext x
  obtain ⟨⟩ := x
  unfold Context.restartRing
  split
  all_goals
    next htimer =>
      cases htimer
      rfl

theorem Context.restartFor_holdoff (v : Nat) :
    Context.restartFor .quietHoldoff v = fun x => { x with holdoff := restarted x.holdoff v } := rfl

/-- The state timer a parameter governs. -/
def Param.stateTimer : Param → Option StateTimerKind
  | .retuneTimeout => some .retune
  | .faultHold => some .faultHold
  | .trainTimeout => some .train
  | .napAskTimeout => some .napAsk
  | .rouseTimeout => some .rouse
  | .closeTimeout => some .close
  | _ => none

theorem governs_iff (p : Param) (k : StateTimerKind) : governs p k = true ↔ p.stateTimer = some k := by
  cases p <;> cases k <;> decide

/-- A parameter that governs the state timer of kind `k` restarts that timer. -/
theorem LinkController.restartFor_stateTimer {p : Param} {k : StateTimerKind} (hp : p ≠ .helloInterval)
    (hk : p.stateTimer = some k) (v : Nat) (l : LinkController) : l.restartFor p v = l.restartTimer k v := by
  unfold LinkController.restartFor LinkController.restartTimer
  rw [if_neg hp]
  cases l
  rename_i stateTimer _ _
  cases stateTimer with
  | none => rfl
  | some t =>
    by_cases ht : t.kind = k
    · simp [governs_iff, hk, ht]
    · simp [governs_iff, hk, ht, Ne.symm ht]

/-- A parameter that governs no state timer leaves the Link Controller alone, but for the hello interval. -/
theorem LinkController.restartFor_of_not_governs {p : Param} (hp : p ≠ .helloInterval)
    (hk : p.stateTimer = none) (v : Nat) (l : LinkController) : l.restartFor p v = l := by
  unfold LinkController.restartFor
  rw [if_neg hp]
  simp [governs_iff, hk]

theorem LinkController.restartFor_hello (v : Nat) (l : LinkController) :
    l.restartFor .helloInterval v = { l with repeatTimer := restarted l.repeatTimer v } := by
  unfold LinkController.restartFor
  simp [governs_iff, Param.stateTimer, restarted]

/-- The running timers a parameter governs, of each block. -/
theorem State.restartTimers_eq (s : State) (p : Param) (v : Nat) :
    s.restartTimers p v =
      { s with
        retry :=
          { s.retry with
            replayTimer := if p = .ackTimeout then s.retry.replayTimer.map fun _ => v else s.retry.replayTimer }
        checker :=
          { s.checker with
            errorWindow :=
              if p = .errorWindow then s.checker.errorWindow.map fun _ => v else s.checker.errorWindow }
        link := s.link.restartFor p v
        circuits := s.circuits.map (Context.restartFor p v) } := by
  cases p with
  | dialTimeout =>
    rw [LinkController.restartFor_of_not_governs (by decide) rfl, Context.restartFor_dial]
    rfl
  | ringTimeout =>
    rw [LinkController.restartFor_of_not_governs (by decide) rfl, Context.restartFor_ring]
    rfl
  | quietHoldoff =>
    rw [LinkController.restartFor_of_not_governs (by decide) rfl, Context.restartFor_holdoff]
    rfl
  | ackTimeout | errorWindow | replayLimit | errorThreshold | retuneLimit | autoFollow =>
    rw [LinkController.restartFor_of_not_governs (by decide) rfl,
      PerCircuit.map_restartFor_of_ne (by decide) (by decide) (by decide)]
    rfl
  | helloInterval =>
    rw [LinkController.restartFor_hello, PerCircuit.map_restartFor_of_ne (by decide) (by decide) (by decide)]
    rfl
  | retuneTimeout | faultHold | trainTimeout | napAskTimeout | rouseTimeout | closeTimeout =>
    rw [LinkController.restartFor_stateTimer (by decide) rfl,
      PerCircuit.map_restartFor_of_ne (by decide) (by decide) (by decide)]
    rfl

theorem ParameterTable.get_set (t : ParameterTable) (p q : Param) (v : Nat) :
    (t.set p v).get q = if q = p then v else t.get q := by
  cases p <;> cases q <;> rfl

/-! ## Statuses (R33, R141) -/

/-- Marks at different bits of a byte add as they are joined. -/
theorem circuitFlags_eq (x : Context) :
    let bit (b : Bool) (v : Byte) : Byte := if b = true then v else 0
    circuitFlags x =
      bit x.quietMarker 1 ||| bit x.holdoff.isSome 2 ||| bit x.askSinceRefusal 4 ||| bit x.autoQuiet 8
        ||| bit x.refusedMarker 16 := by
  unfold circuitFlags
  cases x.quietMarker <;> cases x.holdoff.isSome <;> cases x.askSinceRefusal <;> cases x.autoQuiet
    <;> cases x.refusedMarker <;> decide

theorem codeOr_eq {α : Type} (code : α → Byte) (x : Option α) : codeOr code x = (x.map code).getD 0xFF := by
  cases x <;> rfl

theorem State.circuitStatus_eq (s : State) (c : CircuitId) :
    let bit (b : Bool) (v : Byte) : Byte := if b = true then v else 0
    let x := s.ctx c
    let y := s.cells c
    s.circuitStatus c =
      [circuitByte c, circuitStateCode x.state, (x.lastCause.map circuitCauseCode).getD 0xFF, x.callNumber,
       (x.role.map roleCode).getD 0xFF, count8 (x.window.getD 0), count8 x.sendDepth, x.creditLimit, x.sentCount,
       x.granted, x.receivedCount, x.creditLimit - x.sentCount, count8 y.sendQueue.length,
       count8 y.receiveQueue.length, count8 y.reserved, count8 x.answerWindow, circuitTimerCode x.timer,
       bit x.quietMarker 1 ||| bit x.holdoff.isSome 2 ||| bit x.askSinceRefusal 4 ||| bit x.autoQuiet 8
         ||| bit x.refusedMarker 16] := by
  intro bit x y
  rw [State.circuitStatus]
  simp only [codeOr_eq, circuitFlags_eq]
  rfl

/-- The marks of TRAINING and those of RETUNE are never shown together. -/
theorem trunkMarks_eq (l : LinkController) :
    let bit (b : Bool) (v : Byte) : Byte := if b = true then v else 0
    trunkMarks l =
      bit l.peerCalling 1 ||| bit l.holdElapsed 2 ||| bit (l.state = .training && l.peerHeard) 4
        ||| bit (l.state = .training && l.peerReady) 8 ||| bit (l.state = .training && l.readySent) 16
        ||| bit (l.state = .retune && l.tuneHeard) 32 ||| bit (l.state = .retune && l.tuneOkReceived) 64
        ||| bit (l.state = .retune && l.tuneOkSent) 128 := by
  have hjoin (a b c d e f g h : Bool) (hexclusive : ((c || d || e) && (f || g || h)) = false) :
      markBit a 1 + markBit b 2 + markBit c 4 + markBit d 8 + markBit e 16 + markBit f 32 + markBit g 64
          + markBit h 128 =
        markBit a 1 ||| markBit b 2 ||| markBit c 4 ||| markBit d 8 ||| markBit e 16 ||| markBit f 32
          ||| markBit g 64 ||| markBit h 128 := by
    revert a b c d e f g h
    decide
  refine hjoin _ _ _ _ _ _ _ _ ?_
  cases l.state <;> simp

theorem markBit_one_add_two (a b : Bool) : markBit a 1 + markBit b 2 = markBit a 1 ||| markBit b 2 := by
  cases a <;> cases b <;> decide

theorem RetryUnit.pointed_eq (r : RetryUnit) : r.pointed = r.replayPointer.bind fun i => r.entries[i]? := by
  unfold RetryUnit.pointed
  cases r.replayPointer <;> rfl

theorem State.trunkStatus_eq (s : State) :
    let bit (b : Bool) (v : Byte) : Byte := if b = true then v else 0
    let head := s.retry.entries.head?
    let under := s.retry.replayPointer.bind fun i => s.retry.entries[i]?
    s.trunkStatus =
      [trunkStateCode s.link.state, (s.link.cause.map trunkCauseCode).getD 0xFF, sideCode s.port.side,
        count8 s.link.retuneCounter,
        bit s.link.peerCalling 1 ||| bit s.link.holdElapsed 2
          ||| bit (s.link.state = .training && s.link.peerHeard) 4
          ||| bit (s.link.state = .training && s.link.peerReady) 8
          ||| bit (s.link.state = .training && s.link.readySent) 16
          ||| bit (s.link.state = .retune && s.link.tuneHeard) 32
          ||| bit (s.link.state = .retune && s.link.tuneOkReceived) 64
          ||| bit (s.link.state = .retune && s.link.tuneOkSent) 128,
        (s.link.stateTimer.map fun t => stateTimerCode t.kind).getD 0, count8 s.retry.entries.length,
        bit head.isSome 1 ||| bit under.isSome 2, (head.map (·.sequence)).getD 0, s.retry.nextSequence,
        (under.map (·.sequence)).getD 0, count8 s.retry.replayCounter,
        (head.map fun e => count8 e.transmissions).getD 0, s.checker.expected,
        bit s.checker.nakOutstanding 1, count8 s.checker.errorCounter] ++ count16 s.pool.free := by
  simp only [State.trunkStatus, trunkMarks_eq, codeOr_eq, RetryUnit.pointed_eq, markBit_one_add_two]
  cases s.link.stateTimer <;> cases s.retry.entries.head?
    <;> cases s.retry.replayPointer.bind fun i => s.retry.entries[i]? <;> rfl

end Sys2Proof.Machine
end

section
/-!
THEOREMS. The Host Port's requests on parameters and statuses, and what a start leaves.
-/

namespace Sys2Proof.Proofs

open Sys2Proof Sys2Proof.Machine

/-- Settles O3, by the definition of a start. -/
theorem startLeavesPowerOnValues : Obligations.StartLeavesPowerOnValues := by
  refine ⟨fun side speed cause q => ?_, rfl⟩
  intro t
  have hctx (c : CircuitId) : t.ctx c = .atStart := PerCircuit.get_all _ c
  have hcells (c : CircuitId) : t.cells c = .atStart := PerCircuit.get_all _ c
  have hslots (c : CircuitId) : t.slots c = .empty := PerCircuit.get_all _ c
  exact ⟨fun c => ⟨hctx c, hcells c, hslots c⟩, rfl, rfl, rfl, rfl, rfl, rfl, rfl, rfl, rfl, rfl, rfl, rfl,
    NoticeUnit.record_atStart, rfl, rfl, rfl, rfl, rfl, rfl⟩

/-- Settles O14: the listed ranges are the table's, in the parameters' order. -/
theorem setWritesOneParameter : Obligations.SetWritesOneParameter := by
  intro s tag n low high hready v table
  have hset : exec (.set tag [n, low, high]) s = .next ((setRequest n low high s).reply tag).settle := by
    rw [exec_of_readRequest hready rfl rfl, handRequest]
  constructor
  · intro hout
    rw [hset, setRequest_unnamed (paramOf_of_out_of_range hout), State.refuse_reply]
  · intro p least greatest hn hplace
    have htable : table = parameterOrder.map fun p => (p, paramRange p) := rfl
    rw [htable, List.getElem?_map, ← paramOf_eq_getElem? hn, Option.map_eq_some_iff] at hplace
    obtain ⟨p', hnamed, hpair⟩ := hplace
    obtain ⟨rfl, hrange⟩ := Prod.mk.inj hpair
    have hrequest :
        setRequest n low high s =
          if least ≤ v ∧ v ≤ greatest then (s.setParameter p' v).answering [n, low, high] else s.refuse .badValue := by
      rw [setRequest_named hnamed]
      simp only [inRange, hrange, decide_eq_true_eq]
      rfl
    rw [hset, hrequest]
    refine ⟨fun hout => ?_, fun hleast hgreatest => ?_⟩
    · rw [if_neg (by omega), State.refuse_reply]
    rw [if_pos ⟨hleast, hgreatest⟩, State.answering_reply]
    refine ⟨fun hsame => ?_, fun _ => rfl⟩
    rw [State.setParameter, if_pos hsame.symm]

/-- Settles O15, by the parameter's timers in each block. -/
theorem setRestartsRunningTimers : Obligations.SetRestartsRunningTimers := by
  intro s p v hne
  refine ⟨?_, ?_, fun q hq => ?_, fun t => ?_⟩
  · rw [State.setParameter, if_neg hne, State.restartTimers_eq]
    rfl
  · rw [ParameterTable.get_set, if_pos rfl]
  · rw [ParameterTable.get_set, if_neg hq]
  · cases p <;> rfl

/-- Settles O16, field by field, and by the places of the codes' names. -/
theorem statusReplies : Obligations.StatusReplies := by
  refine ⟨fun s tag c hready => ?_, fun x y u w ms z => ?_⟩
  · intro bit x y head under
    constructor
    · rw [exec_of_readRequest hready rfl rfl, handRequest, withCircuit_circuitByte, circuitStatusRequest,
        State.answering_reply, State.circuitStatus_eq]
    · rw [exec_of_readRequest hready rfl rfl, handRequest, trunkStatusRequest, State.answering_reply,
        State.trunkStatus_eq]
  · refine ⟨?_, ?_, ?_, ?_, ?_, rfl, rfl, rfl⟩
    · cases x <;> rfl
    · cases y <;> rfl
    · cases u <;> rfl
    · cases w <;> rfl
    · cases z <;> rfl

end Sys2Proof.Proofs
end

section
/-!
SUPPORT. The circuits' requests by what their checks read, and what a close-down, a given-up DIAL and a taken cell
leave.
-/

namespace Sys2Proof.Machine

/-! ## Close-down (R8) -/

theorem State.releaseCells_pos {n : Nat} (h : 0 < n) (s : State) :
    s.releaseCells n =
      { s with
        pool := { s.pool with free := s.pool.free + n }
        circuits := s.circuits.map fun x => { x with refusedMarker := false }
        notices :=
          { s.notices with
            raised := s.notices.raised ++ (circuitIds.filter fun d => (s.ctx d).refusedMarker).map Pair.room } } :=
  if_neg (Nat.pos_iff_ne_zero.mp h)

theorem State.releaseCells_role (s : State) (n : Nat) (d : CircuitId) :
    ((s.releaseCells n).ctx d).role = (s.ctx d).role := by
  unfold State.releaseCells
  split
  · rfl
  · rw [State.freeingEvent_ctx]
    rfl

theorem Context.closed_of_role {x : Context} {r : Option Role} (h : x.role = r) (keepRole : Bool) :
    x.closed keepRole =
      { x with
        timer := .stopped, quietMarker := false, askSinceRefusal := false, holdoff := none, window := none
        role := if keepRole = true then r else none } := by
  rw [← h]
  rfl

theorem State.closeDown_placeRequest (s : State) (c : CircuitId) (keepRole : Bool) (w : RequestWord)
    (drain rouse : Bool) :
    (s.closeDown c keepRole).placeRequest c w drain rouse =
      (s.closeDown c keepRole).setSlots c ⟨some ⟨w, (s.ctx c).callNumber, drain, rouse⟩, none, none, none⟩ := by
  rw [State.placeRequest, State.closeDown_slots, State.closeDown_callNumber]
  rfl

theorem State.giveUpDial_eq (s : State) (c : CircuitId) (cause : CircuitCause) :
    s.giveUpDial c cause =
      (if (s.slots c).holdsDial = true then s.closeDown c false
       else (s.closeDown c false).setSlots c ⟨some ⟨.hang, (s.ctx c).callNumber, false, false⟩, none, none, none⟩).enter
        c .idle cause := by
  unfold State.giveUpDial
  cases (s.slots c).holdsDial with
  | true => rfl
  | false => exact congrArg (State.enter · c .idle cause) (s.closeDown_placeRequest c false .hang false false)

theorem State.dialExpires_dial {s : State} {c : CircuitId} {ms : Nat} (h : (s.ctx c).timer = .dial ms) :
    s.dialExpires c = s.giveUpDial c .timeout := by rw [State.dialExpires, h]

/-! ## Slots (R5, R7, R99 to R103) -/

theorem Slots.holdsDial_iff (l : Slots) : l.holdsDial = true ↔ ∃ r v, l.request = some r ∧ r.word = .dial v := by
  unfold Slots.holdsDial
  split
  · next v k drain rouse h => exact ⟨fun _ => ⟨_, v, h, rfl⟩, fun _ => rfl⟩
  · next hnot =>
    refine ⟨nofun, fun ⟨r, v, hr, hword⟩ => ?_⟩
    obtain ⟨word, k, drain, rouse⟩ := r
    subst hword
    exact absurd hr (hnot v k drain rouse)

theorem Slots.holdsWake_iff (l : Slots) (k : Byte) :
    l.holdsWake k = true ↔ ∃ r, l.request = some r ∧ r.word = .wake ∧ r.callNumber = k := by
  unfold Slots.holdsWake
  split <;> simp [*]

theorem Slots.holdsHang_iff (l : Slots) (k : Byte) :
    l.holdsHang k = true ↔ ∃ r, l.request = some r ∧ r.word = .hang ∧ r.callNumber = k := by
  unfold Slots.holdsHang
  split <;> simp [*]

theorem Slots.holdsQuietAsk_iff (l : Slots) :
    l.holdsQuietAsk = true ↔ ∃ r, l.request = some r ∧ r.word = .quietAsk := by
  unfold Slots.holdsQuietAsk
  split <;> simp [*]

theorem Slots.releaseHeld_iff (l : Slots) :
    l.releaseHeld = true ↔ ∃ r, l.request = some r ∧ r.word = .hang ∧ r.heldForRouse = true := by
  unfold Slots.releaseHeld
  split <;> simp [*]

theorem RequestSlot.isStale_iff (w : RequestSlot) (x : Context) :
    w.isStale x = true ↔ w.word = .hang ∧ x.isCurrent w.callNumber = false := by
  simp [RequestSlot.isStale]

section
variable {l : Slots} {x : Context}

theorem Slots.placeRequest_empty (h : l.request = none) (w : RequestSlot) :
    l.placeRequest x w = { l with request := some w } := by rw [Slots.placeRequest, h]

theorem Slots.placeRequest_stale {old : RequestSlot} (h : l.request = some old) (hstale : old.isStale x = true)
    (w : RequestSlot) : l.placeRequest x w = { l with request := some w, overflow := some old.callNumber } := by
  rw [Slots.placeRequest, h]
  exact if_pos hstale

theorem Slots.placeRequest_withdraws {old : RequestSlot} (h : l.request = some old) (hstale : ¬ old.isStale x = true)
    (w : RequestSlot) : l.placeRequest x w = { l with request := some w } := by
  rw [Slots.placeRequest, h]
  exact if_neg hstale

theorem Slots.hangWaits_iff (k : Byte) :
    l.hangWaits k = true ↔ (∃ r, l.request = some r ∧ r.word = .hang ∧ r.callNumber = k) ∨ l.overflow = some k := by
  unfold Slots.hangWaits
  rw [Bool.or_eq_true, beq_iff_eq]
  refine or_congr_left ?_
  split <;> simp [*]

end

/-! ## The checks of requests -/

theorem Taken.ite_reply {p : Prop} [Decidable p] (t u : Taken) (tag : Byte) :
    (if p then t else u).reply tag = if p then t.reply tag else u.reply tag := apply_ite (Taken.reply · tag) p t u

theorem notEmpty_eq_decide {α : Type} [DecidableEq α] (l : List α) : (!l.isEmpty) = decide (l ≠ []) := by
  cases l <;> rfl

theorem notEmpty_iff {α : Type} (l : List α) : (!l.isEmpty) = true ↔ l ≠ [] := by
  cases l <;> simp

theorem TrunkState.notUp_iff (u : TrunkState) :
    (!u.isLive && !u.isNapping) = true ↔ u ∈ [TrunkState.down, .training, .closing, .fault] := by
  cases u <;> decide

theorem TrunkState.isNapping_iff (u : TrunkState) : u.isNapping = true ↔ u ∈ [TrunkState.nap, .rousing] := by
  cases u <;> decide

theorem notDialValues_iff (w d : Byte) :
    (!(isWindow w && isDepth d)) = true ↔ w.toNat < 2 ∨ 32 < w.toNat ∨ d.toNat < 1 ∨ 32 < d.toNat := by
  rw [Bool.not_eq_true', ← Bool.not_eq_true, Bool.and_eq_true, isWindow_iff, isDepth_iff]
  omega

theorem notAcceptValues_iff (w d : Byte) :
    (!((w == 0 || isWindow w) && (d == 0 || isDepth d))) = true ↔
      (w ≠ 0 ∧ (w.toNat < 2 ∨ 32 < w.toNat)) ∨ 32 < d.toNat := by
  have hzero (b : Byte) : b = 0 ↔ b.toNat = 0 := by bv_omega
  simp only [Bool.not_eq_true', ← Bool.not_eq_true, Bool.and_eq_true, Bool.or_eq_true, beq_iff_eq, isWindow_iff,
    isDepth_iff, hzero, ne_eq]
  omega

/-- An answered call keeps its number. -/
theorem State.answerCall_eq (s : State) (c : CircuitId) (window depth : Nat) :
    s.answerCall c window depth =
      (((State.setCells { s with pool := { s.pool with free := s.pool.free - window } } c
          { s.cells c with reserved := (s.cells c).reserved + window }).setCtx c
        { s.ctx c with
          timer := .stopped, window := some window, sendDepth := depth, granted := count8 window
          receivedCount := 0 }).setSlots c
        { s.slots c with answer := some ⟨.answer (count8 window), (s.ctx c).callNumber⟩ }).enter c .connected
          .host := by
  simp only [State.answerCall, State.placeAnswer, State.ctx_setCtx, if_true]
  rfl

/-- ACCEPT's checks and the call it answers. -/
theorem acceptRequest_reply (s : State) (tag : Byte) (c : CircuitId) (w d : Byte) :
    (acceptRequest c w d s).reply tag =
      if (s.ctx c).state ≠ .ringing then s.answered .badState tag []
      else if (s.cells c).receiveQueue ≠ [] then s.answered .unread tag []
      else if (w ≠ 0 ∧ (w.toNat < 2 ∨ 32 < w.toNat)) ∨ 32 < d.toNat then s.answered .badValue tag []
      else if s.pool.free < (if w = 0 then (s.ctx c).answerWindow else w.toNat) then s.answered .noBuffer tag []
      else
        ((s.answerCall c (if w = 0 then (s.ctx c).answerWindow else w.toNat)
          (if d = 0 then 16 else d.toNat)).answered .ok tag []) := by
  rw [acceptRequest, State.acceptRefusal]
  simp only [notEmpty_iff, notAcceptValues_iff, acceptWindow, acceptDepth, Config.depthDefault]
  split_ifs <;> rfl

theorem settingOf_eq (b : Byte) : settingOf b = if b ≠ 0 ∧ b ≠ 1 then none else some (decide (b = 1)) := by
  unfold settingOf
  by_cases hzero : b = 0
  · subst hzero
    rfl
  · by_cases hone : b = 1
    · subst hone
      rfl
    · rw [if_neg hzero, if_neg hone, if_pos ⟨hzero, hone⟩]

/-- OPTIONS refuses either operand out of range. -/
theorem optionsRequest_eq (s : State) (c : CircuitId) (auto window : Byte) :
    optionsRequest c auto window s =
      if (auto ≠ 0 ∧ auto ≠ 1) ∨ window.toNat < 2 ∨ 32 < window.toNat then s.refuse .badValue
      else (s.setCtx c { s.ctx c with autoQuiet := auto = 1, answerWindow := window.toNat }).taken := by
  rw [optionsRequest, settingOf_eq]
  by_cases hauto : auto ≠ 0 ∧ auto ≠ 1
  · rw [if_pos hauto, if_pos (.inl hauto)]
  · rw [if_neg hauto]
    cases hwindow : isWindow window with
    | true => exact (if_neg fun h => h.elim hauto fun h => by rw [← isWindow_eq_false_iff, hwindow] at h; cases h).symm
    | false => exact (if_pos (.inr ((isWindow_eq_false_iff window).mp hwindow))).symm

/-- QUIET's checks, and its ask with the send queue empty or not. -/
theorem quietRequest_eq (s : State) (c : CircuitId) :
    let x := s.ctx c
    let draining : Bool := (s.cells c).sendQueue ≠ []
    let asked :=
      State.placeRequest
        (s.setCtx c
          { x with
            quietMarker := true, holdoff := none
            askSinceRefusal := if x.holdoff = none then x.askSinceRefusal else false })
        c .quietAsk draining false
    quietRequest c s =
      if x.state ≠ .connected ∨ x.quietMarker = true then s.refuse .badState
      else if (s.slots c).holdsWake x.callNumber = true then s.refuse .busy
      else if x.holdoff ≠ none ∧ x.askSinceRefusal = false then s.refuse .holdoff
      else if draining = true then asked.taken
      else (asked.enter c .quieting .host).taken := by
  dsimp only
  have hholdoff : ((s.ctx c).holdoff.isSome && !(s.ctx c).askSinceRefusal) = true ↔
      (s.ctx c).holdoff ≠ none ∧ (s.ctx c).askSinceRefusal = false := by
    rw [Bool.and_eq_true, Option.isSome_iff_ne_none, Bool.not_eq_true']
  have hask : (if (s.ctx c).holdoff.isSome = true then false else (s.ctx c).askSinceRefusal) =
      if (s.ctx c).holdoff = none then (s.ctx c).askSinceRefusal else false := by
    cases (s.ctx c).holdoff <;> rfl
  rw [quietRequest, State.quietRefusal, State.askQuiet]
  simp only [hholdoff, hask, notEmpty_eq_decide, State.setCtx_cells, State.placeRequest_cells]
  by_cases hempty : (s.cells c).sendQueue = []
  · simp only [hempty, List.isEmpty_nil, if_true, ne_eq, not_true, decide_false, Bool.false_eq_true, if_false]
    split_ifs <;> rfl
  · simp only [List.isEmpty_iff, hempty, if_false, ne_eq, not_false_iff, decide_true, if_true]
    split_ifs <;> rfl

/-- SEND's gate and checks. -/
theorem sendRequest_eq (s : State) (c : CircuitId) (payload : Payload) :
    let x := s.ctx c
    let y := s.cells c
    let gate : Bool :=
      (x.state = .connected ∧ x.quietMarker = false) ∨ (x.state = .waking ∧ (s.slots c).releaseHeld = false)
    let marked := s.setCtx c { x with refusedMarker := true }
    sendRequest c payload s =
      if gate = false then s.refuse .badState
      else if payload.length < 1 ∨ 64 < payload.length then s.refuse .badLength
      else if x.sendDepth ≤ y.sendQueue.length then marked.refuse .queueFull
      else if s.pool.free = 0 then marked.refuse .noBuffer
      else
        (State.setCells { s with pool := { s.pool with free := s.pool.free - 1 } } c
          { y with sendQueue := y.sendQueue ++ [payload] }).taken := by
  dsimp only
  have hgate : s.sendGate c =
      decide (((s.ctx c).state = .connected ∧ (s.ctx c).quietMarker = false)
        ∨ ((s.ctx c).state = .waking ∧ (s.slots c).releaseHeld = false)) := by
    unfold State.sendGate
    cases (s.ctx c).state <;> simp
  have hfits : (!payloadFits payload) = true ↔ payload.length < 1 ∨ 64 < payload.length := by
    rw [payloadFits, Config.cellBytes, Bool.not_eq_true', decide_eq_false_iff_not, not_and_or, not_le, not_le]
  rw [sendRequest, State.sendRefusal, hgate]
  simp only [Bool.not_eq_true', hfits]
  split_ifs <;> rfl

/-! ## Cells taken by the host (R66, R67, R169) -/

theorem CircuitState.isLive_iff (st : CircuitState) :
    st.isLive = true ↔ st ∈ [CircuitState.dialing, .connected, .quieting, .quiet, .waking, .releasing] := by
  cases st <;> decide

theorem discardRequest_counted {s : State} {c : CircuitId} {choice : Byte} {n : Nat}
    (h : discardCount choice (s.cells c).receiveQueue.length = some n) :
    discardRequest c choice s =
      if (s.cells c).receiveQueue = [] then s.refuse .empty else (s.removeReceived c n).answering [count8 n] := by
  unfold discardRequest
  rw [h]
  simp only [List.isEmpty_iff]

theorem State.removeReceived_without (s : State) (c : CircuitId) (n : Nat) :
    let x := s.ctx c
    let y := s.cells c
    let rest := y.receiveQueue.drop n
    let g := x.granted + count8 n
    let u :=
      if x.state ∈ [.dialing, .connected, .quieting, .quiet, .waking, .releasing] then
        ((s.setCells c { y with receiveQueue := rest, reserved := y.reserved + n }).setCtx c
          { x with granted := g }).setSlots c { s.slots c with credit := some ⟨x.callNumber, g⟩ }
      else (s.setCells c { y with receiveQueue := rest }).releaseCells n
    s.removeReceived c n =
      if rest = [] then
        { u with
          notices := u.notices.setRecord (.arrived c) { u.notices.record (.arrived c) with latch := false } }
      else u := by
  dsimp only
  have hlive : s.fetchedLive c n =
      ((s.setCells c
        { s.cells c with
          receiveQueue := (s.cells c).receiveQueue.drop n, reserved := (s.cells c).reserved + n }).setCtx c
        { s.ctx c with granted := (s.ctx c).granted + count8 n }).setSlots c
          { s.slots c with credit := some ⟨(s.ctx c).callNumber, (s.ctx c).granted + count8 n⟩ } := by
    simp only [State.fetchedLive, State.placeCredit, State.ctx_setCtx, if_true]
    rfl
  rw [State.removeReceived_eq]
  simp only [hlive, CircuitState.isLive_iff, List.isEmpty_iff]
  rfl

end Sys2Proof.Machine
end

section
/-!
THEOREMS. Circuits: the shared operations, the slots, calls, quiet and wake, and the Buffer Manager's requests.
-/

namespace Sys2Proof.Proofs

open Sys2Proof Sys2Proof.Machine

/-- Settles O17, operation by operation; a freeing event leaves the role. -/
theorem circuitOperations : Obligations.CircuitOperations := by
  intro s c st cause n keepRole x y
  exact ⟨rfl, rfl, fun h => s.releaseCells_pos h,
    congrArg (State.setCtx _ c) (Context.closed_of_role (State.releaseCells_role _ _ _) keepRole)⟩

/-- Settles O18, by the word in the slot. -/
theorem requestSlotKeepsAndReplaces : Obligations.RequestSlotKeepsAndReplaces := by
  refine ⟨fun s c word drain rouse => rfl, fun l x k => ?_, fun l x w k => ?_⟩
  · have hcurrent : x.isCurrent k = true ↔ x.state ≠ .idle ∧ x.state ≠ .barred ∧ x.callNumber = k := by
      rw [Context.isCurrent_iff]
      simp [and_assoc]
    exact ⟨hcurrent, l.holdsDial_iff, l.holdsWake_iff k, l.holdsHang_iff k, l.holdsQuietAsk_iff, l.releaseHeld_iff⟩
  · refine ⟨fun h => Slots.placeRequest_empty h w, fun old h hhang hcurrent => ?_, fun old h hkept => ?_,
      fun h hother => ?_, fun old h hother => ?_, fun old h hhang hk => ?_, fun m h hm => ?_, fun h => ?_⟩
    · exact Slots.placeRequest_stale h ((RequestSlot.isStale_iff old x).mpr ⟨hhang, hcurrent⟩) w
    · refine Slots.placeRequest_withdraws h (fun hstale => ?_) w
      obtain ⟨hhang, hcurrent⟩ := (RequestSlot.isStale_iff old x).mp hstale
      simp [hhang, hcurrent] at hkept
    · have hnot : ¬ l.hangWaits k = true := by simp [Slots.hangWaits_iff, h, hother]
      rw [Slots.placeStaleHang, if_neg hnot, h]
      rfl
    · by_cases hoverflow : l.overflow = some k
      · have hwaits : l.hangWaits k = true := Slots.hangWaits_iff k |>.mpr (.inr hoverflow)
        rw [Slots.placeStaleHang, if_pos hwaits, ← hoverflow]
      · have hnot : ¬ l.hangWaits k = true := by
          rw [Slots.hangWaits_iff]
          rintro (⟨r, hr, hword⟩ | hk)
          · cases h.symm.trans hr
            exact hother hword
          · exact hoverflow hk
        rw [Slots.placeStaleHang, if_neg hnot, h]
    · have hwaits : l.hangWaits k = true := Slots.hangWaits_iff k |>.mpr (.inl ⟨old, h, hhang, hk⟩)
      rw [Slots.placeStaleHang, if_pos hwaits]
    · rw [Slots.moveOverflow, h, hm]
      rfl
    · unfold Slots.moveOverflow
      split
      · next hnone _ => exact absurd hnone h
      · rfl

/-- Settles O23, by the timer that runs. -/
theorem dialTimerAndHoldoffExpire : Obligations.DialTimerAndHoldoffExpire := by
  intro s c ms h x u
  refine ⟨fun htimer => ?_, fun hholdoff => ?_⟩
  · have hexec : exec (.dialTimerExpiry c) s = .next (s.dialExpires c).settle :=
      State.event_running h fun s => s.dialExpires c
    rw [hexec, State.dialExpires_dial htimer, State.giveUpDial_eq]
  · have hexec : exec (.holdoffExpiry c) s = .next (s.holdoffExpires c).settle :=
      State.event_running h fun s => s.holdoffExpires c
    rw [hexec, State.holdoffExpires, hholdoff]

/-- Settles O19, check by check. -/
theorem dialOpensACall : Obligations.DialOpensACall := by
  intro s tag c w d hready
  dsimp only
  rw [exec_of_readRequest hready rfl rfl, handRequest, withCircuit_circuitByte, dialRequest, State.dialRefusal]
  simp only [notEmpty_iff, TrunkState.notUp_iff, TrunkState.isNapping_iff, notDialValues_iff]
  split_ifs <;> rfl

/-- Settles O20, check by check; a body without depth, or without window, is one with 0 there. -/
theorem acceptAnswersACall : Obligations.AcceptAnswersACall := by
  intro s tag c w d hready
  dsimp only
  have hexec {body : List Byte} (hbody : readRequest 0x11 body = .ok (.accept (circuitByte c) w d)) :
      exec (.accept tag body) s = .next ((acceptRequest c w d s).reply tag).settle := by
    rw [exec_of_readRequest hready rfl hbody, handRequest, withCircuit_circuitByte]
  have hresult :=
    congrArg (fun u => (Host.Outcome.next (State.settle u) : StepOutcome)) (acceptRequest_reply s tag c w d)
  rw [State.answerCall_eq] at hresult
  refine ⟨(hexec rfl).trans hresult, fun hd => (hexec ?_).trans hresult, fun hw hd => (hexec ?_).trans hresult⟩
  · rw [hd]
    rfl
  · rw [hw, hd]
    rfl

/-- Settles O22, by the circuit's state and the trunk's. -/
theorem hangupByState : Obligations.HangupByState := by
  intro s tag c hready x l draining refused released held
  rw [exec_of_readRequest hready rfl rfl, handRequest, withCircuit_circuitByte]
  refine congrArg (fun u => Host.Outcome.next (State.settle u)) ?_
  have hreleased : s.beginRelease c = released := by
    rw [State.beginRelease, notEmpty_eq_decide]
    rfl
  have hheld : s.holdRelease c = held := by
    rw [State.holdRelease, notEmpty_eq_decide]
  have hfailed : (s.setCtx c { x with role := none }).enter c .idle .host = s.releaseFailed c := rfl
  have hst : (s.ctx c).state = x.state := rfl
  have hl : l.releaseHeld = (s.slots c).releaseHeld := rfl
  rw [hfailed, hl]
  unfold hangupRequest
  rw [hst]
  cases x.state with
  | idle | barred | ringing | releasing => rfl
  | dialing => exact congrArg (fun u => State.answered u .ok tag []) (s.giveUpDial_eq c .host)
  | connected | quieting => exact congrArg (fun u => State.answered u .ok tag []) hreleased
  | failed => rfl
  | quiet =>
    have habandon (h : s.link.state ≠ .napAsking) : released.abandonNapAsk .host = released := if_neg h
    unfold hangupQuiet
    rw [hreleased, hheld]
    cases hu : s.link.state with
    | up | retune => exact congrArg (fun u => State.answered u .ok tag []) (habandon (by rw [hu]; nofun)).symm
    | napAsking | down | training | closing | fault => rfl
    | nap | rousing => cases (s.slots c).releaseHeld <;> rfl
  | waking =>
    unfold hangupWaking
    rw [hheld]
    cases s.link.state <;> cases (s.slots c).releaseHeld <;> rfl

/-- Settles O24, by the circuit's state and the operands. -/
theorem barUnbarAndOptions : Obligations.BarUnbarAndOptions := by
  intro s tag c auto window hready x
  refine ⟨?_, ?_, ?_⟩
  · rw [exec_of_readRequest hready rfl rfl, handRequest, withCircuit_circuitByte, barRequest, Taken.ite_reply]
    rfl
  · rw [exec_of_readRequest hready rfl rfl, handRequest, withCircuit_circuitByte, unbarRequest, Taken.ite_reply]
    rfl
  · rw [exec_of_readRequest hready rfl rfl, handRequest, withCircuit_circuitByte, optionsRequest_eq,
      Taken.ite_reply]
    rfl

/-- Settles O25, check by check. -/
theorem quietAsks : Obligations.QuietAsks := by
  intro s tag c hready x draining asked
  rw [exec_of_readRequest hready rfl rfl, handRequest, withCircuit_circuitByte, quietRequest_eq]
  simp only [Taken.ite_reply]
  rfl

/-- Settles O26, by the circuit's state and the trunk's. -/
theorem wakeByTrunkState : Obligations.WakeByTrunkState := by
  intro s tag c hready waking
  rw [exec_of_readRequest hready rfl rfl, handRequest, withCircuit_circuitByte, wakeRequest]
  refine congrArg (fun u => Host.Outcome.next (State.settle u)) ?_
  by_cases hquiet : (s.ctx c).state ≠ .quiet ∨ (s.slots c).releaseHeld = true
  · rw [if_pos hquiet, if_pos hquiet, State.refuse_reply]
  · rw [if_neg hquiet, if_neg hquiet]
    cases hu : s.link.state <;> rfl

/-- Settles O27, check by check. -/
theorem sendQueuesAPayload : Obligations.SendQueuesAPayload := by
  intro s tag c payload hready hlength x y gate marked
  have hread : readRequest 0x20 (circuitByte c :: payload) = .ok (.send (circuitByte c) payload) := by
    have hsend : requestOf .send (circuitByte c :: payload) = some (.send (circuitByte c) payload) := by
      rw [requestOf_send, if_pos (by omega)]
    rw [readRequest, show requestKindOf 0x20 = some .send from rfl]
    simp only [hsend]
  rw [exec_of_readRequest hready rfl hread, handRequest, withCircuit_circuitByte, sendRequest_eq]
  simp only [Taken.ite_reply]
  rfl

/-- Settles O28, by the receive queue and the choice. -/
theorem fetchAndDiscardReturnCells : Obligations.FetchAndDiscardReturnCells := by
  intro s tag c choice hready x y without
  have hwithout (n : Nat) : s.removeReceived c n = without n := s.removeReceived_without c n
  have hfetch : exec (.fetch tag [circuitByte c]) s = .next ((fetchRequest c s).reply tag).settle := by
    rw [exec_of_readRequest hready rfl rfl, handRequest, withCircuit_circuitByte]
  have hdiscard : exec (.discard tag [circuitByte c, choice]) s =
      .next ((discardRequest c choice s).reply tag).settle := by
    rw [exec_of_readRequest hready rfl rfl, handRequest, withCircuit_circuitByte]
  have hcount (h : choice = 0 ∨ choice = 1) :
      discardCount choice y.receiveQueue.length = some (if choice = 0 then 1 else y.receiveQueue.length) := by
    unfold discardCount
    obtain rfl | rfl := h <;> rfl
  refine ⟨fun hnil => ?_, fun payload rest hcons => ?_, fun hzero hone => ?_, fun hchoice hnil => ?_,
    fun hchoice hne => ?_⟩
  · rw [hfetch, fetchRequest, hnil, State.refuse_reply]
  · rw [hfetch, fetchRequest, hcons]
    exact congrArg (fun u => Host.Outcome.next (State.answered u .ok tag _).settle) (hwithout 1)
  · rw [hdiscard, discardRequest, discardCount, if_neg hzero, if_neg hone, State.refuse_reply]
  · rw [hdiscard, discardRequest_counted (hcount hchoice), if_pos hnil, State.refuse_reply]
  · rw [hdiscard, discardRequest_counted (hcount hchoice), if_neg hne, hwithout, State.answering_reply]

end Sys2Proof.Proofs
end

section
/-!
SUPPORT. The Notice Unit, each operation written out: an occurrence, a visit of the refill scan, the scan order, and
the pairs by their codes.
-/

namespace Sys2Proof.Machine

/-! ## Records (R158) -/

theorem RecordTable.set_set (t : RecordTable) (p : Pair) (r r' : NoticeRecord) : (t.set p r).set p r' = t.set p r' := by
  cases p with
  | trunkState | trunkError | portError => rfl
  | state c | arrived c | room c => simp [RecordTable.set]

theorem NoticeUnit.record_set (n : NoticeUnit) (p : Pair) (r : NoticeRecord) : (n.records.set p r).get p = r := by
  have h := n.record_setRecord_ite p p r
  rwa [if_pos rfl] at h

/-- An occurrence of a pair, its count and its entry in one (R159). -/
theorem NoticeUnit.occurrence_eq (n : NoticeUnit) (p : Pair) :
    let r := n.record p
    let counted := { r with latch := true, unreported := min (r.unreported + 1) 255 }
    n.occurrence p =
      (if r.mask = false ∧ r.queued = false ∧ n.queue.length < 16 then
        { n with
          records := n.records.set p { counted with queued := true }, queue := n.queue ++ [p], attn := true }
      else { n with records := n.records.set p counted }) := by
  intro r counted
  have hmakes : n.makesEntry p = true ↔ r.mask = false ∧ r.queued = false ∧ n.queue.length < 16 := by
    rw [NoticeUnit.makesEntry, Bool.and_eq_true, Bool.and_eq_true, Bool.not_eq_true', Bool.not_eq_true', hasRoom_iff,
      and_assoc]
  have hcount : n.count p = { n with records := n.records.set p counted } := rfl
  have hentry : (n.count p).enqueue p =
      { n with records := n.records.set p { counted with queued := true }, queue := n.queue ++ [p], attn := true } := by
    have hrecord : (n.count p).record p = counted := n.record_set p counted
    rw [NoticeUnit.enqueue, hrecord, hcount, NoticeUnit.setRecord, NoticeUnit.setQueue]
    simp [RecordTable.set_set]
  rw [NoticeUnit.occurrence, hentry]
  simp only [hmakes]
  rfl

/-- A visit of the refill scan (R167). -/
theorem NoticeUnit.visit_eq (n : NoticeUnit) (p : Pair) :
    let r := n.record p
    n.visit p =
      if r.mask = false ∧ 0 < r.unreported ∧ r.queued = false ∧ n.queue.length < 16 then
        { n with records := n.records.set p { r with queued := true }, queue := n.queue ++ [p], attn := true }
      else n := by
  intro r
  have hvisits : (n.waiting p && n.hasRoom) = true ↔
      r.mask = false ∧ 0 < r.unreported ∧ r.queued = false ∧ n.queue.length < 16 := by
    simp only [NoticeUnit.waiting, Bool.and_eq_true, Bool.not_eq_true', decide_eq_true_eq, hasRoom_iff, and_assoc]
    rfl
  have hentry : n.enqueue p =
      { n with records := n.records.set p { r with queued := true }, queue := n.queue ++ [p], attn := true } := by
    rw [NoticeUnit.enqueue, NoticeUnit.setRecord, NoticeUnit.setQueue]
    simp
    rfl
  rw [NoticeUnit.visit]
  simp only [hvisits, hentry]

theorem NoticeUnit.refill_eq (n : NoticeUnit) :
    n.refill =
      scanOrder.foldl
        (fun n p =>
          let r := n.record p
          if r.mask = false ∧ 0 < r.unreported ∧ r.queued = false ∧ n.queue.length < 16 then
            { n with records := n.records.set p { r with queued := true }, queue := n.queue ++ [p], attn := true }
          else n) n :=
  congrArg (fun f => scanOrder.foldl f n) (funext fun m => funext fun p => m.visit_eq p)

/-! ## The scan order (R157, R161) -/

theorem scanOrder_getElem? (p : Pair) : scanOrder[scanPosition p]? = some p := by
  cases p with
  | trunkState | trunkError | portError => rfl
  | state c | arrived c | room c => revert c; decide

theorem scanOrder_pairwise : scanOrder.Pairwise fun a b => scanPosition a ≤ scanPosition b := by decide

theorem scanOrder_nodup : scanOrder.Nodup := by decide

theorem inScanOrder_perm (raised : List Pair) : (inScanOrder raised).Perm raised := by
  rw [List.perm_iff_count]
  intro a
  have hcount (p : Pair) : (raised.filter (· = p)).count a = if p = a then raised.count a else 0 := by
    split
    · next h => exact List.count_filter (by simp [h])
    · next h => exact List.count_eq_zero_of_not_mem fun hmem => h (of_decide_eq_true (List.mem_filter.mp hmem).2).symm
  rw [inScanOrder, List.count_flatMap]
  simp only [Function.comp_def, hcount]
  rw [← List.sum_toFinset _ scanOrder_nodup, Finset.sum_ite_eq',
    if_pos (List.mem_toFinset.mpr (NoticeUnit.mem_scanOrder a))]

theorem inScanOrder_pairwise (raised : List Pair) :
    (inScanOrder raised).Pairwise fun a b => scanPosition a ≤ scanPosition b := by
  rw [inScanOrder, List.pairwise_flatMap]
  have hself {p a : Pair} (h : a ∈ raised.filter (· = p)) : a = p := of_decide_eq_true (List.mem_filter.mp h).2
  constructor
  · intro p _
    refine List.Pairwise.imp_of_mem (R := fun _ _ => True) (fun ha hb _ => ?_) ?_
    · rw [hself ha, hself hb]
    · exact List.pairwise_of_forall fun _ _ => trivial
  · exact scanOrder_pairwise.imp fun hab x hx y hy => by rwa [hself hx, hself hy]

/-! ## The pairs by their codes (R157, section 10.5) -/

theorem pairOf_codes (p : Pair) : pairOf (sourceCode p) (kindCode p) = some p := by
  cases p with
  | trunkState | trunkError | portError => rfl
  | state c | arrived c | room c => revert c; decide

theorem pairOf_eq_some {source kind : Byte} {p : Pair} (h : pairOf source kind = some p) :
    source = sourceCode p ∧ kind = kindCode p := by
  have hcircuit {n : Nat} (hn : n < 8) (hsource : source.toNat = n + 2) : source = count8 (n + 2) := by
    apply BitVec.eq_of_toNat_eq
    rw [hsource, count8, BitVec.toNat_ofNat]
    omega
  unfold pairOf at h
  split at h
  · next hsource hkind =>
    cases h
    exact ⟨BitVec.eq_of_toNat_eq hsource, BitVec.eq_of_toNat_eq hkind⟩
  · next hsource hkind =>
    cases h
    exact ⟨BitVec.eq_of_toNat_eq hsource, BitVec.eq_of_toNat_eq hkind⟩
  · next hsource hkind =>
    cases h
    exact ⟨BitVec.eq_of_toNat_eq hsource, BitVec.eq_of_toNat_eq hkind⟩
  · next n k hsource =>
    split at h
    · next hn =>
      split at h
      · next hkind =>
        cases h
        exact ⟨hcircuit hn hsource, BitVec.eq_of_toNat_eq hkind⟩
      · next hkind =>
        cases h
        exact ⟨hcircuit hn hsource, BitVec.eq_of_toNat_eq hkind⟩
      · next hkind =>
        cases h
        exact ⟨hcircuit hn hsource, BitVec.eq_of_toNat_eq hkind⟩
      · cases h
    · cases h
  · cases h

theorem pairOf_iff (source kind : Byte) (p : Pair) :
    pairOf source kind = some p ↔ source = sourceCode p ∧ kind = kindCode p := by
  refine ⟨pairOf_eq_some, ?_⟩
  rintro ⟨rfl, rfl⟩
  exact pairOf_codes p

/-! ## MASK, DISMISS and POLL (R164, R170, R171) -/

theorem maskRequest_named {source kind setting : Byte} {p : Pair} {on : Bool} (hp : pairOf source kind = some p)
    (hon : settingOf setting = some on) (s : State) :
    maskRequest source kind setting s =
      State.answering
        { s with notices := if on then s.notices.setMask p on else (s.notices.setMask p on).visit p }
        (NoticeUnit.pairReply (if on then s.notices.setMask p on else (s.notices.setMask p on).visit p) p) := by
  rw [maskRequest, hp, hon]

theorem maskRequest_refused {source kind setting : Byte} (h : pairOf source kind = none ∨ settingOf setting = none)
    (s : State) : maskRequest source kind setting s = s.refuse .badValue := by
  rw [maskRequest]
  split
  · next hp hon => simp [hp, hon] at h
  · rfl

theorem NoticeUnit.pairReply_setMask (n : NoticeUnit) (p : Pair) (on : Bool) :
    (n.setMask p on).pairReply p = n.pairReply p := by
  rw [NoticeUnit.pairReply, NoticeUnit.setMask, NoticeUnit.record_setRecord]
  rfl

theorem NoticeUnit.pairReply_visit (n : NoticeUnit) (p : Pair) : (n.visit p).pairReply p = n.pairReply p := by
  unfold NoticeUnit.visit
  split
  · rw [NoticeUnit.pairReply, NoticeUnit.record_enqueue, if_pos rfl]
    rfl
  · rfl

/-- MASK off, with the entry it can make (R171). -/
theorem NoticeUnit.setMask_visit_eq (n : NoticeUnit) (p : Pair) :
    let r := n.record p
    (n.setMask p false).visit p =
      if 0 < r.unreported ∧ r.queued = false ∧ n.queue.length < 16 then
        { n with
          records := n.records.set p { r with mask := false, queued := true }
          queue := n.queue ++ [p], attn := true }
      else { n with records := n.records.set p { r with mask := false } } := by
  intro r
  have hrecord : (n.setMask p false).record p = { r with mask := false } := n.record_set p _
  have hset (r' : NoticeRecord) : (n.setMask p false).records.set p r' = n.records.set p r' :=
    n.records.set_set p _ r'
  rw [NoticeUnit.visit_eq]
  simp only [hrecord, hset, true_and]
  rfl

theorem NoticeUnit.forget_eq (n : NoticeUnit) (p : Pair) :
    let kept := n.queue.filter (· ≠ p)
    n.forget p =
      { n with
        records := n.records.set p { n.record p with latch := false, unreported := 0, queued := false }
        queue := kept, attn := kept ≠ [] } := by
  intro kept
  rw [NoticeUnit.forget, NoticeUnit.setQueue, notEmpty_eq_decide]
  have hkept : (n.queue.filter fun q => !decide (q = p)) = kept := by simp [kept]
  simp only [NoticeUnit.setRecord, hkept]

theorem State.polled_eq (s : State) :
    let keeps (p : Pair) : Bool :=
      match p with
      | .arrived c => (s.cells c).receiveQueue ≠ []
      | _ => false
    let cleared : NoticeUnit :=
      (s.notices.queue.take 4).foldl
        (fun n p =>
          n.setRecord p
            { n.record p with unreported := 0, queued := false, latch := (n.record p).latch && keeps p })
        s.notices
    let rest := s.notices.queue.drop 4
    s.polled = NoticeUnit.refill { cleared with queue := rest, attn := rest ≠ [] } := by
  intro keeps cleared rest
  have hkeeps (p : Pair) : s.keepsLatch p = keeps p := by
    cases p with
    | arrived c => exact notEmpty_eq_decide _
    | trunkState | trunkError | portError | state c | room c => rfl
  have hcleared : s.notices.delivered.foldl (fun n p => n.clearDelivered (s.keepsLatch p) p) s.notices = cleared := by
    simp only [NoticeUnit.clearDelivered, hkeeps, Bool.and_comm]
    rfl
  rw [State.polled, hcleared, NoticeUnit.setQueue, notEmpty_eq_decide]
  rfl

theorem stateMarks_eq (l : LinkController) :
    stateMarks l = (if l.peerCalling = true then 1 else 0) ||| (if l.holdElapsed = true then 2 else 0) :=
  markBit_one_add_two l.peerCalling l.holdElapsed

end Sys2Proof.Machine
end

section
/-!
THEOREMS. Notices.
-/

namespace Sys2Proof.Proofs

open Sys2Proof Sys2Proof.Machine

/-- Settles O29: the claim's occurrences are a permutation of the reported ones, sorted by scan position. -/
theorem occurrencesAreTakenInScanOrder : Obligations.OccurrencesAreTakenInScanOrder :=
  ⟨fun _ => ⟨rfl, rfl⟩, fun n p =>
    ⟨n.occurrence_eq p, inScanOrder n.raised, inScanOrder_perm _, inScanOrder_pairwise _, rfl⟩⟩

/-- Settles O30: the reports read the state before the POLL, the counts the queue it leaves. -/
theorem pollReportsAndRefills : Obligations.PollReportsAndRefills := by
  refine ⟨by decide, scanOrder_getElem?, fun s tag hready => ?_⟩
  intro first keeps cleared rest after latches codes detail
  have hafter : s.polled = after := s.polled_eq.trans (NoticeUnit.refill_eq _)
  have hreport (p : Pair) : s.noticeReport p =
      codes p ++ [count8 (s.notices.record p).unreported, if (s.notices.record p).latch = true then 1 else 0]
        ++ detail p := by
    cases p with
    | trunkState =>
      rw [State.noticeReport, State.detail, stateMarks_eq, codeOr_eq]
      rfl
    | state c =>
      rw [State.noticeReport, State.detail, codeOr_eq]
      rfl
    | trunkError | portError | arrived c | room c => rfl
  rw [exec_of_readRequest hready rfl rfl, handRequest, pollRequest, State.answering_reply, State.pollReport, hafter,
    funext hreport]
  rfl

/-- Settles O31, by the pair the codes name and the setting. -/
theorem maskAndDismiss : Obligations.MaskAndDismiss := by
  refine ⟨fun source kind p => ?_, fun s tag source kind setting hready => ?_⟩
  · rw [pairOf_iff, ← Prod.mk.injEq]
    cases p <;> rfl
  have hmask : exec (.mask tag [source, kind, setting]) s =
      .next ((maskRequest source kind setting s).reply tag).settle := by
    rw [exec_of_readRequest hready rfl rfl, handRequest]
  have hdismiss : exec (.dismiss tag [source, kind]) s = .next ((dismissRequest source kind s).reply tag).settle := by
    rw [exec_of_readRequest hready rfl rfl, handRequest]
  refine ⟨fun hnone => ⟨?_, ?_⟩, fun hzero hone => ?_, fun p hp => ?_⟩
  · rw [hdismiss, dismissRequest, hnone, State.refuse_reply]
  · rw [hmask, maskRequest_refused (.inl hnone), State.refuse_reply]
  · rw [hmask, maskRequest_refused (.inr ((settingOf_eq setting).trans (if_pos ⟨hzero, hone⟩))), State.refuse_reply]
  intro n r reply off kept forgotten refilled
  have hreply : n.pairReply p = reply := rfl
  refine ⟨fun hset => ?_, fun hset => ?_, ?_⟩
  · subst hset
    rw [hmask, maskRequest_named hp (on := true) rfl, State.answering_reply, if_pos rfl, NoticeUnit.pairReply_setMask]
    rfl
  · subst hset
    have hoff : (s.notices.setMask p false).visit p = off := s.notices.setMask_visit_eq p
    rw [hmask, maskRequest_named hp (on := false) rfl, State.answering_reply, if_neg Bool.false_ne_true,
      NoticeUnit.pairReply_visit, NoticeUnit.pairReply_setMask, hoff]
    rfl
  · have hrefilled : (s.notices.forget p).refill = refilled := by
      rw [NoticeUnit.forget_eq]
      exact NoticeUnit.refill_eq _
    rw [hdismiss, dismissRequest, hp]
    simp only [hrefilled]
    rfl

end Sys2Proof.Proofs
end

section
/-!
SUPPORT. Cells and frames at the Receive Checker, the words of calls and of quiet, credit and data, and trunk loss, each
with its result written out.
-/

namespace Sys2Proof.Machine

/-! ## Cells by class and by trunk state (R89 to R94) -/

section
variable {s : State} {sequence : Byte} {owner : State → State}

theorem State.classified_of_expected (h : (sequence - s.checker.expected).toNat = 0) :
    s.classified sequence owner = owner s.accepting := by
  have hclass : classify s.checker.expected sequence = .expected := if_pos h
  rw [State.classified, hclass]
  rfl

theorem State.classified_of_ahead (hleast : 1 ≤ (sequence - s.checker.expected).toNat)
    (hgreatest : (sequence - s.checker.expected).toNat ≤ 127) : s.classified sequence owner = s.postNak := by
  have hclass : classify s.checker.expected sequence = .ahead := by
    rw [classify, if_neg (Nat.pos_iff_ne_zero.mp hleast), if_pos hgreatest]
  rw [State.classified, hclass]

theorem State.classified_of_behind (h : 128 ≤ (sequence - s.checker.expected).toNat) :
    s.classified sequence owner = s.post (.ack (s.checker.expected - 1)) := by
  have hclass : classify s.checker.expected sequence = .behind := by
    rw [classify, if_neg (by omega), if_neg (by omega)]
  rw [State.classified, hclass]

end

/-- The state in which a cell is classified: a ROUSING trunk has left its rouse (R153). -/
def State.classifying (s : State) : State :=
  if s.link.state = .rousing then s.rouseToUp s.link.cause else s

theorem State.classifying_checker (s : State) : s.classifying.checker = s.checker := by
  unfold State.classifying
  split <;> rfl

theorem State.receiveCell_of_classifies {s : State} (h : s.link.state ∈ [TrunkState.up, .napAsking, .retune, .rousing])
    (sequence : Byte) (owner : State → State) :
    s.receiveCell sequence owner = s.classifying.classified sequence owner := by
  simp only [List.mem_cons, List.not_mem_nil, or_false] at h
  obtain h | h | h | h := h <;> rw [State.receiveCell, State.classifying, h] <;> rfl

theorem State.receiveCell_of_deaf {s : State} (h : s.link.state ∈ [TrunkState.down, .training, .closing, .fault])
    (sequence : Byte) (owner : State → State) : s.receiveCell sequence owner = s := by
  simp only [List.mem_cons, List.not_mem_nil, or_false] at h
  obtain h | h | h | h := h <;> rw [State.receiveCell, h]

theorem State.receiveCell_nap {s : State} (h : s.link.state = .nap) (sequence : Byte) (owner : State → State) :
    s.receiveCell sequence owner = s.implicitRouse := by rw [State.receiveCell, h]

/-- NAK is posted once, in UP and NAP-ASKING (R88, R92). -/
theorem State.postNak_eq (s : State) :
    s.postNak =
      if s.link.state ∈ [.up, .napAsking] ∧ s.checker.nakOutstanding = false then
        { s with
          checker := { s.checker with nakOutstanding := true }
          transmit := { s.transmit with ackNak := some (.nak (s.checker.expected - 1)) } }
      else s := by
  have hcond : ((s.link.state = .up ∨ s.link.state = .napAsking) ∧ ¬ s.checker.nakOutstanding = true) ↔
      s.link.state ∈ [.up, .napAsking] ∧ s.checker.nakOutstanding = false := by simp
  rw [State.postNak]
  simp only [hcond]
  rfl

theorem State.classifying_state {s : State} (h : s.link.state ∈ [TrunkState.up, .napAsking, .retune, .rousing]) :
    s.classifying.link.state ∈ [.up, .napAsking] ↔ s.classifying.link.state ≠ .retune := by
  simp only [List.mem_cons, List.not_mem_nil, or_false] at h
  obtain h | h | h | h := h
  · rw [State.classifying, if_neg (by rw [h]; nofun), h]
    decide
  · rw [State.classifying, if_neg (by rw [h]; nofun), h]
    decide
  · rw [State.classifying, if_neg (by rw [h]; nofun), h]
    decide
  · rw [State.classifying, if_pos h]
    exact ⟨fun _ => nofun, fun _ => .head _⟩

/-- A cell ahead draws one NAK, except in RETUNE (R92). -/
theorem State.classifying_postNak {s : State} (h : s.link.state ∈ [TrunkState.up, .napAsking, .retune, .rousing]) :
    let u := s.classifying
    u.postNak =
      if u.link.state ≠ .retune ∧ s.checker.nakOutstanding = false then
        { u with
          checker := { u.checker with nakOutstanding := true }
          transmit := { u.transmit with ackNak := some (.nak (s.checker.expected - 1)) } }
      else u := by
  intro u
  have hchecker : u.checker = s.checker := s.classifying_checker
  refine u.postNak_eq.trans (if_congr (and_congr (State.classifying_state h) ?_) ?_ rfl)
  · rw [hchecker]
  · exact congrArg
      (fun e => { u with
        checker := { u.checker with nakOutstanding := true }
        transmit := { u.transmit with ackNak := some (.nak (e - 1)) } })
      (congrArg ReceiveChecker.expected hchecker)

/-- A cell row of a circuit at a running part. -/
theorem exec_of_cellRow_circuit {i : Instr} {s : State} {sequence circuit : Byte} {owner : CircuitId → State → State}
    {c : CircuitId} (hi : cellRow i = some (sequence, circuit, owner)) (hc : circuitOf circuit = some c)
    (h : s.power = .running) : exec i s = .next (s.receiveCell sequence (owner c)).settle := by
  rw [exec_of_cellRow hi, State.cellCommand, State.event_running h]
  simp only [hc]

/-! ## Frames that fail their check (R88, R96) -/

theorem State.thresholdReached_eq (s : State) :
    s.thresholdReached =
      if s.link.state ∈ [.up, .napAsking, .rousing] then s.retuneCause .errorThreshold false else s := by
  unfold State.thresholdReached
  cases s.link.state <;> rfl

/-- A check failure, counted in the window against the threshold (R96). -/
theorem State.failCheck_eq (s : State) :
    let n := min (s.checker.errorCounter + 1) 255
    let failed := { s with checker := { s.checker with checkErrors := min (s.checker.checkErrors + 1) 65535 } }
    s.failCheck =
      State.postNak
        (if s.checker.errorWindow = none then failed
         else if n < s.port.parameters.errorThreshold then
           State.report { failed with checker := { failed.checker with errorCounter := n } } .trunkError
         else
           let u :=
             State.report
               { failed with checker := { failed.checker with errorCounter := 0, thresholdReported := true } }
               .trunkError
           if s.link.state ∈ [.up, .napAsking, .rousing] then u.retuneCause .errorThreshold false else u) := by
  intro n failed
  rw [State.failCheck]
  refine congrArg State.postNak ?_
  change (if s.checker.errorWindow.isSome = true then failed.countError else failed) = _
  by_cases hwindow : s.checker.errorWindow = none
  · rw [if_pos hwindow, hwindow]
    rfl
  · rw [if_neg hwindow, if_pos (Option.isSome_iff_ne_none.mpr hwindow)]
    by_cases hless : n < s.port.parameters.errorThreshold
    · rw [if_pos hless]
      exact if_neg (Nat.not_le.mpr hless)
    · rw [if_neg hless]
      exact (if_pos (Nat.not_lt.mp hless)).trans (State.thresholdReached_eq _)

/-- A trunk command whose operands no good frame carries is a frame that fails its check. -/
theorem exec_of_not_wellFormed {i : Instr} (hi : wellFormed i = false) (hf : requestFrame i = none) (s : State) :
    exec i s = s.event State.failCheck := by
  have hcell {sequence circuit : Byte} (owner : CircuitId → State → State) (hc : (circuitOf circuit).isSome = false) :
      s.cellCommand sequence circuit owner = s.event State.failCheck := by
    rw [State.cellCommand, Option.isSome_eq_false_iff.mp hc |> Option.isNone_iff_eq_none.mp]
  cases i with
  | incomingDataCell sequence circuit payload =>
    by_cases hfits : payloadFits payload = true
    · have hc : (circuitOf circuit).isSome = false := by
        rw [wellFormed, hfits, Bool.and_true] at hi
        exact hi
      exact (if_pos hfits).trans (hcell _ hc)
    · exact if_neg hfits
  | incomingDial | incomingAnswer | incomingReject | incomingHang | incomingHangDone | incomingQuietAsk
  | incomingQuietOk | incomingQuietRefuse | incomingWake | incomingCredit => exact hcell _ hi
  | helloReceived side version circuits capacity => exact if_neg (Bool.eq_false_iff.mp hi)
  | _ => simp [wellFormed, requestFrame] at hi hf

/-! ## Call words (R14, R18, R19) -/

/-- A circuit rings after its call is closed down as before: with the port's ring timeout. -/
theorem State.ring_eq_of_port {s v : State} (h : v.port = s.port) (c : CircuitId) (k w : Byte) (cause : CircuitCause) :
    v.ring c k w cause =
      ((v.setCtx c
        { v.ctx c with
          callNumber := k, role := some .callee, window := none, creditLimit := w, sentCount := 0, granted := 0
          receivedCount := 0, timer := .ring s.port.parameters.ringTimeout }).enter c .ringing
            cause).abandonNapAsk .peer := by
  rw [← h]
  rfl

/-! ## Quiet words (R35 to R46) -/

theorem incomingQuietAsk_ignored {k : Byte} {c : CircuitId} {s : State}
    (h : (s.ctx c).callNumber ≠ k ∨ (s.ctx c).state ∉ [CircuitState.connected, .quieting, .quiet]) :
    incomingQuietAsk k c s = s := by
  unfold incomingQuietAsk
  split
  · next hcurrent =>
    have hk := ((Context.isCurrent_iff _ _).mp hcurrent).2
    have hstate := h.resolve_left (not_not_intro hk)
    simp only [List.mem_cons, List.not_mem_nil, or_false, not_or] at hstate
    split <;> simp_all
  · rfl

/-- A matching QUIET-ASK is answered by the test of R39. -/
theorem incomingQuietAsk_taken {k : Byte} {c : CircuitId} {s : State} (hk : (s.ctx c).callNumber = k)
    (hstate : (s.ctx c).state ∈ [CircuitState.connected, .quieting, .quiet]) :
    incomingQuietAsk k c s =
      if (s.ctx c).state ∈ [.quieting, .quiet] ∨ ((s.ctx c).state = .connected ∧ (s.cells c).sendQueue = []
          ∧ ((s.ctx c).quietMarker = true ∨ (s.ctx c).autoQuiet = true)) then s.agreeQuiet c k
      else s.refuseQuiet c k := by
  have hagrees : s.agreesToQuiet c = true ↔
      (s.cells c).sendQueue = [] ∧ ((s.ctx c).quietMarker = true ∨ (s.ctx c).autoQuiet = true) := by
    rw [State.agreesToQuiet, Bool.and_eq_true, Bool.or_eq_true, List.isEmpty_iff]
  simp only [List.mem_cons, List.not_mem_nil, or_false] at hstate
  unfold incomingQuietAsk Context.isCurrent
  obtain hst | hst | hst := hstate <;> simp [hst, hk, CircuitState.hasCurrentCall, hagrees]

theorem State.agreeQuiet_eq (s : State) (c : CircuitId) (k : Byte) :
    let x := s.ctx c
    let l := s.slots c
    let answered := { l with answer := some ⟨.quietOk, k⟩ }
    let agreed :=
      (s.setCtx c { x with quietMarker := false, askSinceRefusal := false, holdoff := none }).setSlots c
        (if x.state = .quieting ∧ l.holdsQuietAsk = true then Slots.moveOverflow { answered with request := none }
        else answered)
    s.agreeQuiet c k = if x.state = .quiet then agreed else agreed.enter c .quiet .peer := by
  intro x l answered agreed
  have hask : (if x.state = .quieting ∧ l.holdsQuietAsk = true then
        ((s.setSlots c answered).setCtx c
          { x with quietMarker := false, askSinceRefusal := false, holdoff := none }).setSlots c
            (Slots.moveOverflow { answered with request := none })
      else (s.setSlots c answered).setCtx c
        { x with quietMarker := false, askSinceRefusal := false, holdoff := none }) = agreed := by
    simp only [agreed]
    split
    · exact State.setSlots_setSlots (s.setCtx c _) c _ _
    · rfl
  have hstate : (agreed.ctx c).state = x.state := by
    rw [State.setSlots_ctx, State.ctx_setCtx, if_pos rfl]
  unfold State.agreeQuiet State.placeAnswer
  simp only [State.setSlots_ctx, State.ctx_setCtx, if_true, State.setCtx_slots, State.slots_setSlots]
  refine Eq.trans ?_ (congrArg (fun u : State => if (u.ctx c).state = .quiet then u else u.enter c .quiet .peer) hask)
    |>.trans (if_congr (by rw [hstate]) rfl rfl)
  rfl

/-! ## Trunk loss (R139) -/

/-- Trunk loss with the circuits that end named by a test. -/
theorem State.trunkLoss_eq_of_ends {s : State} {ends : CircuitId → Bool}
    (hends : ends = fun c => (s.ctx c).state.endsAtLoss) (cause : CircuitCause) :
    let sends (c : CircuitId) : Nat := if ends c = true then (s.cells c).sendQueue.length else 0
    let gives (c : CircuitId) : Nat := if ends c = true then (s.cells c).reserved else 0
    s.trunkLoss cause =
      State.releaseCells
        { s with
          circuits := .ofFn fun c =>
            if ends c = true then
              { s.ctx c with
                state := .idle, lastCause := some cause, timer := .stopped, quietMarker := false
                askSinceRefusal := false, holdoff := none, window := none, role := none }
            else s.ctx c
          pool :=
            { s.pool with
              cells := .ofFn fun c =>
                if ends c = true then { s.cells c with sendQueue := [], reserved := 0 } else s.cells c
              lostCells := min (s.pool.lostCells + circuitSum sends) 65535 }
          retry := { s.retry with entries := [], replayPointer := none, replayTimer := none, replayCounter := 0 }
          checker :=
            { s.checker with
              nakOutstanding := false, errorWindow := none, errorCounter := 0, thresholdReported := false }
          transmit :=
            { s.transmit with
              slots := .all ⟨none, none, none, none⟩, ackNak := none, linkSlot := ⟨none, false, none⟩ }
          link :=
            { s.link with
              retuneCounter := 0, tuneHeard := false, tuneOkReceived := false, tuneOkSent := false
              echo := false, repeatTimer := none }
          notices :=
            { s.notices with raised := s.notices.raised ++ (circuitIds.filter ends).map Pair.state } }
        (circuitSum sends + circuitSum gives + dataCells s.retry.entries) := by
  subst hends
  intro sends gives
  have hlost : s.cellsLost = fun c => sends c + gives c := by
    funext c
    unfold State.cellsLost
    simp only [sends, gives]
    split <;> rfl
  rw [State.trunkLoss_eq, hlost, circuitSum_add]
  rfl

end Sys2Proof.Machine
end

section
/-!
THEOREMS. Cells, frames that fail their check, and the accepted words.
-/

namespace Sys2Proof.Proofs

open Sys2Proof Sys2Proof.Machine

/-- Settles O32, by the trunk state and the distance of the sequence number from E. -/
theorem cellsBySequenceAndTrunkState : Obligations.CellsBySequenceAndTrunkState := by
  intro s i sequence circuit owner c hi hc h
  have hexec := exec_of_cellRow_circuit hi hc h
  have hE : s.classifying.checker.expected = s.checker.expected := congrArg _ s.classifying_checker
  intro u e d
  have hu : s.classifying = u := rfl
  refine ⟨fun hstate => ⟨fun hd => ?_, fun hleast hgreatest => ?_, fun hd => ?_⟩, fun hstate => ?_, fun hstate => ?_⟩
  · rw [hexec, State.receiveCell_of_classifies hstate, State.classified_of_expected (by rw [hE]; exact hd), hu]
  · rw [hexec, State.receiveCell_of_classifies hstate,
      State.classified_of_ahead (by rw [hE]; exact hleast) (by rw [hE]; exact hgreatest),
      State.classifying_postNak hstate]
    rfl
  · rw [hexec, State.receiveCell_of_classifies hstate, State.classified_of_behind (by rw [hE]; exact hd), hE]
    rfl
  · rw [hexec, State.receiveCell_of_deaf hstate]
  · rw [hexec, State.receiveCell_nap hstate]
    rfl

/-- Settles O33, by the window and the threshold, and by the operands of each trunk command. -/
theorem framesThatFailTheirCheck : Obligations.FramesThatFailTheirCheck := by
  refine ⟨fun s h => ?_, fun s i h hi hf => exec_of_not_wellFormed hi hf s⟩
  intro n failed counted
  have hexec : exec .frameFailsCheck s = .next s.failCheck.settle := State.event_running h State.failCheck
  have hcounted : s.failCheck = counted.postNak := s.failCheck_eq
  rw [hexec, hcounted, State.postNak_eq]

/-- Settles O34, by the circuit's state. -/
theorem incomingDialByState : Obligations.IncomingDialByState := by
  intro s q b k w c h
  have hexec : exec (.incomingDial q b k w) s = .next (incomingDial k w c s.accepting).settle := exec_of_accepts h rfl
  intro u x rung
  have hrung (v : State) (hv : v.port = s.port) (cause : CircuitCause) : v.ring c k w cause = rung v cause :=
    State.ring_eq_of_port hv c k w cause
  have hclosed : (u.closeDown c false).port = s.port := (u.closeDown_same c false).port
  rw [hexec]
  refine congrArg (fun u => Host.Outcome.next (State.settle u)) ?_
  unfold incomingDial
  cases hw : isWindow w with
  | false =>
    rw [if_pos ((isWindow_eq_false_iff w).mp hw)]
    rfl
  | true =>
    have hin : ¬ (w.toNat < 2 ∨ 32 < w.toNat) := by
      rw [← isWindow_eq_false_iff, hw]
      nofun
    have hst : (u.ctx c).state = x.state := rfl
    have hside : u.port.side = s.port.side := rfl
    rw [if_neg hin, if_pos rfl]
    unfold State.takeDial
    rw [hst, hside]
    cases x.state with
    | idle => exact hrung u rfl .peer
    | dialing =>
      cases s.port.side with
      | a => rfl
      | b => exact hrung _ hclosed .crossed
    | barred | failed => rfl
    | ringing | connected | quieting | quiet | waking | releasing =>
      by_cases hk : x.callNumber = k
      · exact (if_pos hk).trans (if_pos hk).symm
      · exact (if_neg hk).trans ((hrung _ hclosed .superseded).trans (if_neg hk).symm)

/-- Settles O37, by the circuit's state and the answering test. -/
theorem incomingQuietWords : Obligations.IncomingQuietWords := by
  refine ⟨fun s q b k c h => ?_, fun s q b k c h => ?_⟩
  · have hexec : exec (.incomingQuietAsk q b k) s = .next (incomingQuietAsk k c s.accepting).settle :=
      exec_of_accepts h rfl
    intro u x l agrees answered agreed
    rw [hexec]
    refine congrArg (fun u => Host.Outcome.next (State.settle u)) ?_
    by_cases hignored : x.callNumber ≠ k ∨ x.state ∉ [.connected, .quieting, .quiet]
    · rw [if_pos hignored]
      exact incomingQuietAsk_ignored hignored
    · rw [if_neg hignored]
      have htaken := not_or.mp hignored
      rw [incomingQuietAsk_taken (s := u) (not_not.mp htaken.1) (not_not.mp htaken.2)]
      refine if_congr decide_eq_true_iff.symm (u.agreeQuiet_eq c k) rfl
  · have hok : exec (.incomingQuietOk q b k) s = .next (incomingQuietOk k c s.accepting).settle := exec_of_accepts h rfl
    have hrefuse : exec (.incomingQuietRefuse q b k) s = .next (incomingQuietRefuse k c s.accepting).settle :=
      exec_of_accepts h rfl
    have hwake : exec (.incomingWake q b k) s = .next (incomingWake k c s.accepting).settle := exec_of_accepts h rfl
    have hquieting := (s.ctx c).isCurrent_and_state (st := .quieting) rfl k
    have hquiet := (s.ctx c).isCurrent_and_state (st := .quiet) rfl k
    refine ⟨?_, ?_, ?_⟩
    · rw [hok, incomingQuietOk]
      simp only [State.accepting_ctx, hquieting]
    · rw [hrefuse, incomingQuietRefuse]
      simp only [State.accepting_ctx, hquieting]
      rfl
    · rw [hwake, incomingWake]
      simp only [State.accepting_ctx, hquiet]

/-- Settles O38, by the circuit's state and its reservation. -/
theorem incomingCreditAndData : Obligations.IncomingCreditAndData := by
  intro s q b k n payload c h
  have hcredit : exec (.incomingCredit q b k n) s = .next (incomingCredit k n c s.accepting).settle :=
    exec_of_accepts h rfl
  have hdata (hfits : payloadFits payload = true) :
      exec (.incomingDataCell q b payload) s = .next (incomingData payload c s.accepting).settle :=
    exec_of_accepts h (if_pos hfits)
  intro u x y taking stale accepted failed overrun
  have haccepted : u.acceptData c payload = accepted := rfl
  have hoverrun : u.overrun c = overrun :=
    congrArg (fun v => (State.enter v c .failed .overrun).abandonNapAsk .peer)
      (State.closeDown_placeRequest _ c true .hang false false)
  refine ⟨?_, fun hleast hgreatest => ?_⟩
  · rw [hcredit]
    refine congrArg (fun u => Host.Outcome.next (State.settle u)) ?_
    have htaken : taking = x.state.takesCredit := by
      simp only [taking]
      cases x.state <;> rfl
    have hcond : (x.isCurrent k && x.state.takesCredit) = true ↔ ¬ (taking = false ∨ x.callNumber ≠ k) := by
      rw [htaken, Context.isCurrent]
      cases x.state <;> simp [CircuitState.takesCredit, CircuitState.hasCurrentCall]
    rw [incomingCredit]
    by_cases hignored : taking = false ∨ x.callNumber ≠ k
    · exact (if_neg (mt hcond.mp (not_not_intro hignored))).trans (if_pos hignored).symm
    · exact (if_pos (hcond.mpr hignored)).trans (if_neg hignored).symm
  · rw [hdata (decide_eq_true ⟨hleast, hgreatest⟩)]
    refine congrArg (fun u => Host.Outcome.next (State.settle u)) ?_
    have hst : (u.ctx c).state = x.state := rfl
    have hy : u.cells c = y := rfl
    unfold incomingData
    rw [hst, hy, haccepted, hoverrun]
    cases x.state <;> rfl

/-- Settles O39, change by change. -/
theorem trunkStateChanges : Obligations.TrunkStateChanges := by
  intro s st cause why
  refine ⟨rfl, ?_, rfl⟩
  rw [State.enterUp]
  simp only [List.isEmpty_iff]
  rfl

/-- Settles O40: the circuits that end are those with a current call. -/
theorem trunkLossEvent : Obligations.TrunkLossEvent := by
  intro s cause
  refine State.trunkLoss_eq_of_ends (funext fun c => ?_) cause
  cases (s.ctx c).state <;> rfl

end Sys2Proof.Proofs
end

section
/-!
SUPPORT. The Link Controller: entries to states with their standing signals and timers, the marks of training and of
retune, the nap test, and acknowledgements at the sender.
-/

namespace Sys2Proof.Machine

/-! ## Entries to states (R118, R119) -/

theorem sideCode_eq (side : Side) : sideCode side = if side = .a then 0 else 1 := by cases side <;> rfl

theorem State.enterTraining_eq (s : State) (cause : TrunkCause) (heard : Bool) :
    s.enterTraining cause heard =
      (let u := s.changeTrunk .training (some cause)
      { u with
        link :=
          { u.link with
            peerHeard := heard, repeatTimer := some s.port.parameters.helloInterval
            stateTimer := some ⟨.train, s.port.parameters.trainTimeout⟩ }
        transmit :=
          { u.transmit with
            linkSlot :=
              { u.transmit.linkSlot with
                standing :=
                  some (if heard = true then .ready else .hello (if s.port.side = .a then 0 else 1) 1 8 48)
                due := true } } }) := by
  rw [← sideCode_eq]
  rfl

theorem State.enterNapAsking_eq (s : State) :
    let u := s.changeTrunk .napAsking (some .host)
    s.enterNapAsking =
      { u with
        link :=
          { u.link with
            repeatTimer := some s.port.parameters.helloInterval
            stateTimer := some ⟨.napAsk, s.port.parameters.napAskTimeout⟩ }
        transmit :=
          { u.transmit with linkSlot := { u.transmit.linkSlot with standing := some .napAsk, due := true } } } := rfl

theorem State.startRouse_eq (s : State) :
    let u := s.changeTrunk .rousing (some .host)
    s.startRouse =
      { u with
        link :=
          { u.link with
            repeatTimer := some s.port.parameters.helloInterval
            stateTimer := some ⟨.rouse, s.port.parameters.rouseTimeout⟩ }
        transmit :=
          { u.transmit with linkSlot := { u.transmit.linkSlot with standing := some .rouse, due := true } } } := rfl

theorem State.enterClosing_stands (s : State) :
    let u := (s.trunkLoss .trunkClosed).changeTrunk .closing (some .host)
    s.enterClosing =
      { u with
        link :=
          { u.link with
            repeatTimer := some s.port.parameters.helloInterval
            stateTimer := some ⟨.close, s.port.parameters.closeTimeout⟩ }
        transmit :=
          { u.transmit with linkSlot := { u.transmit.linkSlot with standing := some .down, due := true } } } := by
  have hport : (s.trunkLoss .trunkClosed).port = s.port := (s.trunkLoss_same _).port
  unfold State.enterClosing
  generalize s.trunkLoss .trunkClosed = lost at hport
  rw [← hport]
  rfl

theorem State.enterFault_stands (s : State) (cause : TrunkCause) :
    let before := if s.link.state = .down ∨ s.link.state = .fault then s else s.trunkLoss .trunkLost
    let u := before.changeTrunk .fault (some cause)
    s.enterFault cause =
      { u with
        link :=
          { u.link with
            repeatTimer := some s.port.parameters.helloInterval
            stateTimer := some ⟨.faultHold, s.port.parameters.faultHold⟩
            faults := min (s.link.faults + 1) 65535 }
        transmit :=
          { u.transmit with
            linkSlot :=
              { u.transmit.linkSlot with standing := some (.fault (trunkCauseCode cause)), due := true } } } := by
  have hsame : SameOutside s (if s.link.state = .down ∨ s.link.state = .fault then s else s.trunkLoss .trunkLost) := by
    split
    · exact .refl s
    · exact s.trunkLoss_same _
  have hfaults : (if s.link.state = .down ∨ s.link.state = .fault then s else s.trunkLoss .trunkLost).link.faults =
      s.link.faults := by
    split
    · rfl
    · rw [State.trunkLoss_eq, State.releaseCells_link]
      rfl
  unfold State.enterFault
  generalize (if s.link.state = .down ∨ s.link.state = .fault then s else s.trunkLoss .trunkLost) = before
    at hsame hfaults
  rw [← hsame.port, ← hfaults]
  rfl

/-! ## Training and retune (R123, R124, R129) -/

/-- A HELLO's checks (R123). -/
theorem State.helloFault_eq (s : State) (side version circuits capacity : Byte) :
    s.helloFault side version circuits capacity =
      if side = (if s.port.side = .a then 0 else 1) then some .sideClash
      else if version = 1 ∧ circuits = 8 ∧ capacity = 48 then none
      else some .version := by
  rw [← sideCode_eq]
  rfl

theorem State.switchToReady_marks (s : State) :
    s.switchToReady.link.peerHeard = s.link.peerHeard ∧ s.switchToReady.link.peerReady = s.link.peerReady
      ∧ s.switchToReady.link.readySent = s.link.readySent := by
  unfold State.switchToReady
  split <;> exact ⟨rfl, rfl, rfl⟩

/-- Training ends once READY was heard and sent. -/
theorem State.finishTraining_switchToReady {s : State} (h : s.link.peerHeard = true) :
    s.switchToReady.finishTraining =
      if s.link.peerReady = true ∧ s.link.readySent = true then s.switchToReady.enterUpFromTraining
      else s.switchToReady := by
  obtain ⟨hheard, hready, hsent⟩ := s.switchToReady_marks
  rw [State.finishTraining, hheard, hready, hsent, h]
  simp only [Bool.true_and, Bool.and_eq_true]

theorem State.helloInTraining_eq (s : State) (side version circuits capacity : Byte) :
    let ready := State.switchToReady { s with link := { s.link with peerHeard := true } }
    s.helloInTraining side version circuits capacity =
      match s.helloFault side version circuits capacity with
      | some cause => s.enterFault cause
      | none => if s.link.peerReady = true ∧ s.link.readySent = true then ready.enterUpFromTraining else ready := by
  intro ready
  have hfinish := State.finishTraining_switchToReady (s := { s with link := { s.link with peerHeard := true } }) rfl
  unfold State.helloInTraining
  cases s.helloFault side version circuits capacity with
  | some cause => rfl
  | none => exact hfinish

/-! ## The nap test (R104, R144, R172) -/

theorem State.circuitsMayNap_eq (s : State) :
    s.circuitsMayNap = decide (∀ c ∈ circuitIds, (s.ctx c).state ∈ [CircuitState.idle, .barred, .quiet]) := by
  have hmay (st : CircuitState) : st.mayNap = true ↔ st ∈ [CircuitState.idle, .barred, .quiet] := by
    cases st <;> decide
  rw [State.circuitsMayNap, Bool.eq_iff_iff, List.all_eq_true, decide_eq_true_iff]
  simp only [hmay]

theorem Slots.isPending_iff (l : Slots) : l.isPending = true ↔ l ≠ ⟨none, none, none, none⟩ := by
  obtain ⟨request, overflow, answer, credit⟩ := l
  cases request <;> cases overflow <;> cases answer <;> cases credit <;> simp [Slots.isPending]

theorem State.wordPending_eq (s : State) :
    s.wordPending = !decide (∀ c ∈ circuitIds, s.slots c = ⟨none, none, none, none⟩) := by
  rw [State.wordPending, Bool.eq_iff_iff, List.any_eq_true, Bool.not_eq_true', decide_eq_false_iff_not]
  simp only [Slots.isPending_iff, not_forall, exists_prop, ne_eq]

theorem NoticeUnit.pendingNotices_eq (n : NoticeUnit) :
    n.pendingNotices =
      decide (n.queue ≠ [] ∨ ∃ p ∈ scanOrder, (n.record p).mask = false ∧ 0 < (n.record p).unreported) := by
  rw [NoticeUnit.pendingNotices, Bool.eq_iff_iff, Bool.or_eq_true, notEmpty_iff, List.any_eq_true, decide_eq_true_iff]
  simp only [Bool.and_eq_true, Bool.not_eq_true', decide_eq_true_eq]

/-! ## The resolution of a rouse (R47, R154) -/

/-- The change back to UP with the waiting circuits named by a test. -/
theorem State.rouseToUp_eq_of_waits {s : State} {waits : CircuitId → Bool}
    (hwaits : waits = fun c => (s.ctx c).awaitsRouse (s.slots c)) (cause : Option TrunkCause) :
    let up := s.enterUp cause
    s.rouseToUp cause =
      { up with
        circuits := .ofFn fun c =>
          if waits c = true then
            { s.ctx c with
              state := if (s.slots c).releaseHeld = true then .releasing else .connected, lastCause := some .host }
          else s.ctx c
        transmit :=
          { up.transmit with
            slots := .ofFn fun c =>
              if waits c = false then s.slots c
              else if (s.slots c).releaseHeld = true then
                { s.slots c with request := (s.slots c).request.map fun w => { w with heldForRouse := false } }
              else (s.slots c).placeRequest (s.ctx c) ⟨.wake, (s.ctx c).callNumber, false, false⟩ }
        notices :=
          { up.notices with raised := up.notices.raised ++ (circuitIds.filter waits).map Pair.state } } := by
  subst hwaits
  intro up
  have hslots (c : CircuitId) : (s.slots c).resolved (s.ctx c) =
      if (s.ctx c).awaitsRouse (s.slots c) = false then s.slots c
      else if (s.slots c).releaseHeld = true then
        { s.slots c with request := (s.slots c).request.map fun w => { w with heldForRouse := false } }
      else (s.slots c).placeRequest (s.ctx c) ⟨.wake, (s.ctx c).callNumber, false, false⟩ := by
    unfold Slots.resolved
    cases (s.ctx c).awaitsRouse (s.slots c) <;> rfl
  simp only [← hslots]
  rfl

end Sys2Proof.Machine
end

section
/-!
THEOREMS. Trunk states and their timers.
-/

namespace Sys2Proof.Proofs

open Sys2Proof Sys2Proof.Machine

/-- Settles O41, by the trunk state and the hold. -/
theorem trunkUpBeginsTraining : Obligations.TrunkUpBeginsTraining := by
  intro s tag cause heard refusedWith up begun
  refine ⟨s.enterTraining_eq cause heard, fun hready => ?_, fun ms h htimer => ?_⟩
  · have hup : up = .next ((trunkUpRequest s).reply tag).settle := by
      simp only [up]
      rw [exec_of_readRequest hready rfl rfl, handRequest]
    rw [hup]
    refine ⟨fun hst => ?_, fun hst helapsed => ?_, fun hst hholding => ?_, fun hst => ?_⟩
    · rw [trunkUpRequest, hst]
      rfl
    · rw [trunkUpRequest, hst, helapsed]
      rfl
    · rw [trunkUpRequest, hst, hholding]
      rfl
    · unfold trunkUpRequest
      cases hs : s.link.state with
      | down | fault => simp [hs] at hst
      | training | up | retune | napAsking | nap | rousing | closing => rfl
  · have hexec : exec .trainTimerExpiry s =
        .next (if s.link.timerRuns .train then s.enterDown .noPeer else s).settle := State.event_running h _
    rw [hexec, if_pos (LinkController.timerRuns_of_stateTimer htimer)]
    rfl

/-- Settles O42, by the trunk state and the HELLO's checks. -/
theorem helloByTrunkState : Obligations.HelloByTrunkState := by
  intro s side version circuits capacity h hside wrong called followed heard ready result
  have hcode : isSideCode side = true := by
    obtain rfl | rfl := hside <;> rfl
  have hexec : exec (.helloReceived side version circuits capacity) s =
      .next (s.takeHello side version circuits capacity).settle :=
    (if_pos hcode).trans (State.event_running h _)
  have hwrong : s.helloFault side version circuits capacity = wrong := s.helloFault_eq ..
  have hcalled : called.helloFault side version circuits capacity = wrong := called.helloFault_eq ..
  have hfollowed : s.peerCalls side version circuits capacity = followed :=
    congrArg
      (fun o : Option TrunkCause =>
        if s.port.parameters.autoFollow = 0 then called
        else
          match o with
          | some cause => called.enterFault cause
          | none => called.enterTraining .peer true)
      hcalled
  have hready : heard.switchToReady = ready := rfl
  rw [hexec]
  refine congrArg (fun u => Host.Outcome.next (State.settle u)) ?_
  rw [State.takeHello, hfollowed, State.helloInTraining_eq, hwrong]
  rfl

/-- Settles O43, by the trunk state and the marks. -/
theorem readyAndTuneOkByTrunkState : Obligations.ReadyAndTuneOkByTrunkState := by
  intro s h echoed roused heard ready tuned tuneOk
  have hreadyExec : exec .readyReceived s = .next s.takeReady.settle := State.event_running h _
  have htuneExec : exec .tuneOkReceived s = .next s.takeTuneOk.settle := State.event_running h _
  have htrained : heard.switchToReady.finishTraining =
      if s.link.readySent = true then ready.enterUpFromTraining else ready := by
    rw [State.finishTraining_switchToReady rfl]
    simp only [heard, true_and]
    rfl
  have htuned : s.tuneOkInRetune = if s.link.tuneOkSent = true then tuneOk.returnFromRetune else tuneOk := by
    have hsent : tuneOk.link.tuneOkSent = s.link.tuneOkSent := by
      simp only [tuneOk]
      split <;> rfl
    rw [← hsent]
    rfl
  constructor
  · rw [hreadyExec, State.takeReady]
    refine congrArg (fun u => Host.Outcome.next (State.settle u)) ?_
    cases s.link.state with
    | training => exact htrained
    | up | nap | down | retune | napAsking | rousing | closing | fault => rfl
  · rw [htuneExec, State.takeTuneOk]
    refine congrArg (fun u => Host.Outcome.next (State.settle u)) ?_
    cases s.link.state with
    | retune => exact htuned
    | up | nap | down | training | napAsking | rousing | closing | fault => rfl

/-- Settles O46, check by check, and by the trunk state. -/
theorem napAskedAndAnswered : Obligations.NapAskedAndAnswered := by
  intro s tag ms quiet empty notices u asking granted
  have hquiet : s.circuitsMayNap = quiet := s.circuitsMayNap_eq
  have hempty : s.wordPending = !empty := s.wordPending_eq
  have hnotices : s.notices.pendingNotices = notices := s.notices.pendingNotices_eq
  have hasking : s.enterNapAsking = asking := s.enterNapAsking_eq
  refine ⟨fun hready => ?_, fun h => ⟨?_, ?_, ?_, fun htimer => ?_⟩⟩
  · rw [exec_of_readRequest hready rfl rfl, handRequest, napRequest, State.napRefusal, hquiet, hempty, hnotices,
      hasking]
    have hnotQuiet : (!quiet || !empty) = true ↔ quiet = false ∨ empty = false := by
      rw [Bool.or_eq_true, Bool.not_eq_true', Bool.not_eq_true']
    simp only [hnotQuiet, notEmpty_iff]
    split_ifs <;> rfl
  · have hexec : exec .napAskReceived s = .next s.takeNapAsk.settle := State.event_running h _
    have htest : s.napTest = true ↔ quiet = true ∧ empty = true ∧ s.retry.entries = [] := by
      rw [State.napTest, hquiet, hempty, Bool.not_not, Bool.and_eq_true, Bool.and_eq_true, List.isEmpty_iff, and_assoc]
    rw [hexec, State.takeNapAsk]
    refine congrArg (fun u => Host.Outcome.next (State.settle u)) ?_
    simp only [htest]
    rfl
  · exact State.event_running h _
  · exact State.event_running h _
  · have hexec : exec .napAskTimerExpiry s =
        .next (if s.link.timerRuns .napAsk then s.enterUp (some .napTimeout) else s).settle := State.event_running h _
    rw [hexec, if_pos (LinkController.timerRuns_of_stateTimer htimer)]

/-- Settles O47, by the circuits that wait and the trunk state. -/
theorem rouseAndItsResolution : Obligations.RouseAndItsResolution := by
  intro s tag cause u rousing waits up
  have hrousing : s.startRouse = rousing := s.startRouse_eq
  refine ⟨hrousing, State.rouseToUp_eq_of_waits (funext fun c => ?_) cause, fun hready => ?_, fun h => ⟨?_, ?_⟩⟩
  · simp only [waits, Context.awaitsRouse]
    cases (s.ctx c).state <;> cases (s.slots c).releaseHeld <;> rfl
  · rw [exec_of_readRequest hready rfl rfl, handRequest, rouseRequest, hrousing, Taken.ite_reply]
    rfl
  · exact State.event_running h _
  · exact State.event_running h _

/-- Settles O48, by the trunk state. -/
theorem orderlyClose : Obligations.OrderlyClose := by
  intro s tag ms lost u closing down
  have hclosing : s.enterClosing = closing := s.enterClosing_stands
  refine ⟨fun hready => ?_, fun h => ⟨?_, ?_, fun htimer => ?_⟩⟩
  · rw [exec_of_readRequest hready rfl rfl, handRequest, trunkDownRequest, hclosing]
    refine congrArg (fun u => Host.Outcome.next (State.settle u)) ?_
    cases s.link.state with
    | fault => exact Taken.ite_reply _ _ _
    | up | retune | napAsking | nap | rousing | training | down | closing => rfl
  · exact State.event_running h _
  · exact State.event_running h _
  · have hexec : exec .closeTimerExpiry s =
        .next (if s.link.timerRuns .close then s.enterDown .closeTimeout else s).settle := State.event_running h _
    rw [hexec, if_pos (LinkController.timerRuns_of_stateTimer htimer)]
    rfl

/-- Settles O49, by the trunk state and the hold's timer. -/
theorem faultHoldsAndEnds : Obligations.FaultHoldsAndEnds := by
  intro s cause received ms before u
  refine ⟨s.enterFault_stands cause, fun h => ⟨?_, fun htimer => ?_⟩⟩
  · have hexec : exec (.faultReceived received) s = .next s.takeFault.settle := State.event_running h _
    rw [hexec, State.takeFault]
    cases s.link.state <;> rfl
  · have hexec : exec .faultHoldExpiry s =
        .next (if s.link.timerRuns .faultHold then s.holdEnds else s).settle := State.event_running h _
    rw [hexec, if_pos (LinkController.timerRuns_of_stateTimer htimer)]
    rfl

end Sys2Proof.Proofs
end

section
/-!
SUPPORT. Acknowledgements at the sender, the retune timer, the Arbiter's choice and what taking a frame does, and the
bytes of the frames on the trunk pair.
-/

namespace Sys2Proof.Machine

/-! ## ACK and NAK at the sender (R79 to R81) -/

theorem RetryUnit.find_of_split {r : RetryUnit} {older rest : List RetryEntry} {e : RetryEntry} {n : Byte}
    (hsplit : r.entries = older ++ e :: rest) (he : e.sequence = n) (holder : ∀ a ∈ older, a.sequence ≠ n) :
    r.find n = some older.length := by
  have hnone : older.findIdx? (fun a => a.sequence == n) = none := by
    simpa [List.findIdx?_eq_none_iff] using holder
  simp [RetryUnit.find, hsplit, List.findIdx?_append, hnone, List.findIdx?_cons, he]

theorem RetryUnit.find_of_absent {r : RetryUnit} {n : Byte} (h : ∀ a ∈ r.entries, a.sequence ≠ n) :
    r.find n = none := by
  simpa [RetryUnit.find, List.findIdx?_eq_none_iff] using h

/-- What an ACK of the last of the entries `gone` leaves, with the entries `rest` behind them (R79, R81). -/
theorem State.acknowledge_of_split {u : State} {gone rest : List RetryEntry} {port : HostPort}
    (h : u.retry.entries = gone ++ rest) (hport : u.port = port) :
    u.acknowledge gone.length =
      State.releaseCells
        { u with
          retry :=
            { u.retry with
              entries := rest
              replayPointer := if rest = [] then none else u.retry.replayPointer.map (· - gone.length)
              replayCounter := 0
              replayTimer :=
                if rest = [] ∨ u.link.state ≠ .up then none else some port.parameters.ackTimeout }
          link := { u.link with retuneCounter := 0 } }
        (dataCells gone) := by
  subst hport
  have hdrop : u.retry.entries.drop gone.length = rest := by rw [h, List.drop_left]
  have htake : u.retry.entries.take gone.length = gone := by rw [h, List.take_left]
  have htimer : (rest.isEmpty || !(u.link.state == .up)) = true ↔ rest = [] ∨ u.link.state ≠ .up := by simp
  rw [State.acknowledge_eq, htake, State.removed, RetryUnit.removeFirst, hdrop]
  simp only [htimer, List.isEmpty_iff]

theorem State.replayIfAny_eq (v : State) :
    v.replayIfAny =
      if v.retry.entries = [] then v
      else
        State.report
          { v with retry := { v.retry with replayPointer := some 0, replays := min (v.retry.replays + 1) 65535 } }
          .trunkError := by
  unfold State.replayIfAny State.beginReplay
  cases v.retry.entries <;> rfl

theorem RetryUnit.beforeHead_eq (r : RetryUnit) :
    r.beforeHead = ((r.entries.head?.map (·.sequence)).getD r.nextSequence) - 1 := by
  unfold RetryUnit.beforeHead
  cases r.entries <;> rfl

theorem State.receiveAckNak_of_classifies {s : State}
    (h : s.link.state ∈ [TrunkState.up, .napAsking, .retune, .rousing]) (owner : State → State) :
    s.receiveAckNak owner = owner s.classifying := by
  simp only [List.mem_cons, List.not_mem_nil, or_false] at h
  obtain h | h | h | h := h <;> rw [State.receiveAckNak, State.classifying, h] <;> rfl

theorem State.receiveAckNak_of_deaf {s : State} (h : s.link.state ∈ [TrunkState.down, .training, .closing, .fault])
    (owner : State → State) : s.receiveAckNak owner = s := by
  simp only [List.mem_cons, List.not_mem_nil, or_false] at h
  obtain h | h | h | h := h <;> rw [State.receiveAckNak, h]

theorem State.receiveAckNak_nap {s : State} (h : s.link.state = .nap) (owner : State → State) :
    s.receiveAckNak owner = s.implicitRouse := by rw [State.receiveAckNak, h]

/-- The end of the rouse leaves the outstanding entries and their numbers. -/
theorem State.classifying_outstanding (s : State) :
    s.classifying.retry.entries = s.retry.entries ∧ s.classifying.retry.nextSequence = s.retry.nextSequence := by
  unfold State.classifying
  split <;> exact ⟨rfl, rfl⟩

theorem State.classifying_port (s : State) : s.classifying.port = s.port := by
  unfold State.classifying
  split
  · exact (s.rouseToUp_same _).port
  · rfl

theorem State.takeNak_of_absent {u : State} {n : Byte} (h : ∀ a ∈ u.retry.entries, a.sequence ≠ n) :
    u.takeNak n = if n = u.retry.beforeHead then u.replayIfAny else u.countStray := by
  rw [State.takeNak, RetryUnit.find_of_absent h]

theorem State.takeAck_of_absent {u : State} {n : Byte} (h : ∀ a ∈ u.retry.entries, a.sequence ≠ n) :
    u.takeAck n = u.countStray := by
  rw [State.takeAck, RetryUnit.find_of_absent h]

theorem exec_ackReceived {s : State} (h : s.power = .running) (n : Byte) :
    exec (.ackReceived n) s = .next (s.receiveAckNak fun s => s.takeAck n).settle :=
  State.event_running h fun s => s.receiveAckNak fun s => s.takeAck n

theorem exec_nakReceived {s : State} (h : s.power = .running) (n : Byte) :
    exec (.nakReceived n) s = .next (s.receiveAckNak fun s => s.takeNak n).settle :=
  State.event_running h fun s => s.receiveAckNak fun s => s.takeNak n

/-! ## Completion on the wire (R108, R124, R129, R147) -/

theorem exec_trunkFrameComplete {s : State} (h : s.power = .running) :
    exec .trunkFrameComplete s = .next s.frameCompletes.settle := State.event_running h _

/-- A completed link signal is reported to the Link Controller. -/
theorem exec_trunkFrameComplete_signal {s : State} {o : Origin} {x : LinkSignal} {t : State} (h : s.power = .running)
    (hwire : s.transmit.wire = some ⟨o, .signal x⟩)
    (hsent : State.signalSent { s with transmit := { s.transmit with wire := none } } x = t) :
    exec .trunkFrameComplete s = .next t.settle := by
  rw [exec_trunkFrameComplete h, State.frameCompletes, hwire, ← hsent]

theorem State.returnFromRetune_eq (u : State) :
    let up := u.enterUp u.link.cause
    u.returnFromRetune =
      { up with
        retry :=
          { up.retry with replayPointer := if u.retry.entries = [] then none else some 0, replayCounter := 0 } } := by
  intro up
  have hempty : up.retry.entries.isEmpty = true ↔ u.retry.entries = [] := List.isEmpty_iff
  unfold State.returnFromRetune
  simp only [← hempty]
  rfl

theorem State.napOkDeparted_up {u : State} (hgranted : u.link.napGranted = true) (hstate : u.link.state = .up) :
    u.napOkDeparted =
      if u.napTest = true then u.changeTrunk .nap (some .peer)
      else { u with link := { u.link with napGranted := false } } := by
  rw [State.napOkDeparted, if_pos hgranted, hstate]
  rfl

theorem State.napOkDeparted_napAsking {u : State} (hgranted : u.link.napGranted = true)
    (hstate : u.link.state = .napAsking) : u.napOkDeparted = u.changeTrunk .nap u.link.cause := by
  rw [State.napOkDeparted, if_pos hgranted, hstate]
  rfl

/-- READY, TUNE-OK and NAP-OK act in their states alone. -/
theorem State.signalSent_ignored {u : State} {x : LinkSignal} (hready : ¬ (x = .ready ∧ u.link.state = .training))
    (htune : ¬ (x = .tuneOk ∧ u.link.state = .retune))
    (hnap : ¬ (x = .napOk ∧ u.link.napGranted = true ∧ u.link.state ∈ [TrunkState.up, .napAsking])) :
    u.signalSent x = u := by
  cases x with
  | ready => exact if_neg fun h => hready ⟨rfl, h⟩
  | tuneOk => exact if_neg fun h => htune ⟨rfl, h⟩
  | napOk =>
    by_cases hgranted : u.link.napGranted = true
    · rw [State.signalSent, State.napOkDeparted, if_pos hgranted]
      cases hstate : u.link.state with
      | up | napAsking => exact absurd ⟨rfl, hgranted, by rw [hstate]; decide⟩ hnap
      | down | training | retune | nap | rousing | closing | fault => rfl
    · exact if_neg hgranted
  | hello | ack | nak | tune | napAsk | napRefuse | rouse | rouseOk | down | downOk | fault => rfl

end Sys2Proof.Machine
end

section
/-!
THEOREMS. ACK and NAK at the sender.
-/

namespace Sys2Proof.Proofs

open Sys2Proof Sys2Proof.Machine

/-- Settles O45: an outstanding number is found at its place in the queue, and what is removed is the entries up to
it. -/
theorem ackAndNakAtTheSender : Obligations.AckAndNakAtTheSender := by
  intro s n h u stray removed replay before
  have hu : s.classifying = u := rfl
  obtain ⟨hentries, hnext⟩ := s.classifying_outstanding
  rw [hu] at hentries hnext
  refine ⟨fun hstate => ⟨fun older e rest hsplit he holder => ?_, fun habsent => ?_⟩, fun hdeaf => ?_, fun hnap => ?_⟩
  · have hwhole : u.retry.entries = (older ++ [e]) ++ rest := by
      rw [hentries, hsplit, List.append_assoc]
      rfl
    have hfind : u.retry.find n = some older.length :=
      RetryUnit.find_of_split (hentries.trans hsplit) he holder
    have hlength : older.length + 1 = (older ++ [e]).length := by rw [List.length_append, List.length_singleton]
    have hack : u.acknowledge (older.length + 1) = removed (older ++ [e]) rest := by
      rw [hlength]
      exact State.acknowledge_of_split hwhole s.classifying_port
    have hnak : (removed (older ++ [e]) rest).replayIfAny = replay (removed (older ++ [e]) rest) :=
      State.replayIfAny_eq _
    rw [exec_ackReceived h, exec_nakReceived h, State.receiveAckNak_of_classifies hstate,
      State.receiveAckNak_of_classifies hstate, hu, State.takeAck, State.takeNak, hfind]
    simp only [hack, hnak, and_self]
  · have hu' : ∀ a ∈ u.retry.entries, a.sequence ≠ n := fun a ha => habsent a (hentries ▸ ha)
    have hbefore : u.retry.beforeHead = before := by rw [RetryUnit.beforeHead_eq, hentries, hnext]
    have hreplay : u.replayIfAny = replay u := State.replayIfAny_eq u
    rw [exec_ackReceived h, exec_nakReceived h, State.receiveAckNak_of_classifies hstate,
      State.receiveAckNak_of_classifies hstate, hu, State.takeAck_of_absent hu', State.takeNak_of_absent hu', hbefore,
      hreplay]
    exact ⟨rfl, rfl⟩
  · rw [exec_ackReceived h, exec_nakReceived h, State.receiveAckNak_of_deaf hdeaf, State.receiveAckNak_of_deaf hdeaf]
    exact ⟨rfl, rfl⟩
  · rw [exec_ackReceived h, exec_nakReceived h, State.receiveAckNak_nap hnap, State.receiveAckNak_nap hnap]
    exact ⟨rfl, rfl⟩

/-- Settles O50, by the frame on the wire and the trunk state. -/
theorem frameCompletes : Obligations.FrameCompletes := by
  intro s h u up trained retuned
  refine ⟨fun hidle => ?_, fun o f hwire => ?_⟩
  · rw [exec_trunkFrameComplete h, State.frameCompletes, hidle]
  refine ⟨?_, ?_, ?_, ?_, fun hready htune hnap => ?_⟩
  · rintro rfl hstate
    refine exec_trunkFrameComplete_signal h hwire ?_
    rw [State.signalSent, State.readySent, if_pos hstate, State.finishTraining]
    simp only [Bool.and_true, Bool.and_eq_true]
    rfl
  · rintro rfl hstate
    refine exec_trunkFrameComplete_signal h hwire ?_
    let marked := { u with link := { u.link with tuneOkSent := true } }
    have hsent : u.tuneOkSent = if marked.link.tuneOkReceived then marked.returnFromRetune else marked :=
      if_pos hstate
    have hreturn : marked.returnFromRetune = retuned := marked.returnFromRetune_eq
    exact hsent.trans (by rw [hreturn])
  · rintro rfl hgranted hstate
    refine exec_trunkFrameComplete_signal h hwire ?_
    exact State.napOkDeparted_up (u := u) hgranted hstate
  · rintro rfl hgranted hstate
    refine exec_trunkFrameComplete_signal h hwire ?_
    exact State.napOkDeparted_napAsking (u := u) hgranted hstate
  · cases f with
    | data | control => rw [exec_trunkFrameComplete h, State.frameCompletes, hwire]
    | signal x =>
      exact exec_trunkFrameComplete_signal h hwire
        (State.signalSent_ignored (fun hx => hready ⟨congrArg _ hx.1, hx.2⟩) (fun hx => htune ⟨congrArg _ hx.1, hx.2⟩)
          fun hx => hnap ⟨congrArg _ hx.1, hx.2⟩)

/-- Settles O51, timer by timer. -/
theorem transferAndRetuneTimersExpire : Obligations.TransferAndRetuneTimersExpire := by
  refine ⟨fun s ms h => ?_, fun s ms h htimer => ?_⟩
  · have hreplay : exec .replayTimerExpiry s = .next s.replayExpires.settle := State.event_running h _
    have hwindow : exec .errorWindowExpiry s = .next s.windowCloses.settle := State.event_running h _
    have hrepeat : exec .repeatTimerExpiry s = .next s.repeatExpires.settle := State.event_running h _
    dsimp only
    refine ⟨fun htimer hbelow => ?_, fun htimer hlimit => ?_, fun htimer => ?_, fun htimer => ?_⟩
    · rw [hreplay, State.replayExpires, htimer]
      simp only [if_pos hbelow, State.beginReplay, List.isEmpty_iff]
      rfl
    · rw [hreplay, State.replayExpires, htimer]
      simp only [if_neg (Nat.not_lt.mpr hlimit)]
      rfl
    · rw [hwindow, State.windowCloses, htimer]
    · rw [hrepeat, State.repeatExpires, htimer]
  · have hexec : exec .retuneTimerExpiry s =
        .next (if s.link.timerRuns .retune then s.retuneExpires else s).settle := State.event_running h _
    rw [hexec, if_pos (LinkController.timerRuns_of_stateTimer htimer), State.retuneExpires]
    refine ⟨fun hlimit => ?_, fun hbelow => ?_⟩
    · simp only [if_pos hlimit]
    · simp only [if_neg (Nat.not_le.mpr hbelow)]
      rfl

end Sys2Proof.Proofs
end

section
/-!
SUPPORT. The bytes of trunk frames and their reading, the Arbiter's choice, and what taking a frame does.
-/

namespace Sys2Proof.Machine

/-! ## Trunk frames and their reading (section 10.4) -/

@[simp] theorem wordOf_wordCode (w : ControlWord) : wordOf (wordCode w) (wordValue w) = some w := by cases w <;> rfl

/-- The code and the arguments of a link signal give it back; a HELLO needs a side's code (R194). -/
theorem signalOf_signalCode {x : LinkSignal}
    (hside : ∀ side version n k, x = .hello side version n k → side = 0 ∨ side = 1) :
    signalOf (signalCode x) (signalArguments x) = some x := by
  cases x with
  | hello side version n k =>
    obtain rfl | rfl := hside _ _ _ _ rfl <;> rfl
  | ready | ack | nak | tune | tuneOk | napAsk | napOk | napRefuse | rouse | rouseOk | down | downOk | fault => rfl

/-- A run with the layout of a data cell (section 10.4). -/
theorem coveredFrame_data {circuit length : Byte} {c : CircuitId} {payload : Payload} (hc : circuitOf circuit = some c)
    (hlength : payload.length = length.toNat) (hfits : payloadFits payload = true) (sequence : Byte) :
    coveredFrame (0x01 :: sequence :: circuit :: length :: payload) = some (.data sequence c payload) := by
  unfold coveredFrame
  simp [hc, hlength, hfits]

/-- A run with the layout of a control cell. -/
theorem coveredFrame_control {circuit code value : Byte} {c : CircuitId} {w : ControlWord}
    (hc : circuitOf circuit = some c) (hw : wordOf code value = some w) (sequence callNumber : Byte) :
    coveredFrame [0x02, sequence, circuit, code, callNumber, value] = some (.control sequence c w callNumber) := by
  unfold coveredFrame
  simp [hc, hw]

/-- A run with the layout of a link signal. -/
theorem coveredFrame_signal {code : Byte} {arguments : List Byte} {x : LinkSignal}
    (hx : signalOf code arguments = some x) : coveredFrame (0x03 :: code :: arguments) = some (.signal x) := by
  unfold coveredFrame
  simp [hx]

/-- The covered bytes keep the layout of their frame. -/
theorem coveredFrame_coveredBytes {f : TrunkFrame}
    (hdata : ∀ q c payload, f = .data q c payload → 1 ≤ payload.length ∧ payload.length ≤ 64)
    (hside : ∀ side v n k, f = .signal (.hello side v n k) → side = 0 ∨ side = 1) :
    coveredFrame (coveredBytes f) = some f := by
  cases f with
  | data q c payload =>
    have hbounds : 1 ≤ payload.length ∧ payload.length ≤ 64 := hdata _ _ _ rfl
    have hlength : payload.length = (count8 payload.length).toNat := by
      rw [count8, BitVec.toNat_ofNat, Nat.mod_eq_of_lt (by omega)]
    exact coveredFrame_data (circuitOf_circuitByte c) hlength (decide_eq_true hbounds) q
  | control q c w k => exact coveredFrame_control (circuitOf_circuitByte c) (wordOf_wordCode w) q k
  | signal x =>
    exact coveredFrame_signal (signalOf_signalCode fun side v n k hx => hside side v n k (congrArg _ hx))

/-- The check value stands behind the covered bytes, two bytes of it behind a link signal's and four behind others'. -/
theorem readTrunkFrame_append {covered check : List Byte} {size : Nat} (hlength : check.length = size)
    (hsize : (if (covered ++ check).head? = some 0x03 then 2 else 4) = size)
    (hcheck : check = if size = 2 then le16 (crc16 covered) else le32 (crc32 covered)) :
    readTrunkFrame (covered ++ check) = coveredFrame covered := by
  have hcut : (covered ++ check).length - size = covered.length := by
    rw [List.length_append, hlength, Nat.add_sub_cancel]
  rw [readTrunkFrame]
  simp only [hsize, hcut, List.take_left, List.drop_left, if_pos hcheck]

theorem readTrunkFrame_trunkFrameBytes (f : TrunkFrame) :
    readTrunkFrame (trunkFrameBytes f) = coveredFrame (coveredBytes f) := by
  cases f with
  | data | control => exact readTrunkFrame_append (size := 4) rfl rfl rfl
  | signal => exact readTrunkFrame_append (size := 2) rfl rfl rfl

/-! ## The Arbiter's choice (R107, R109 to R113) -/

/-- The circuits in turn, counted from the pointer. -/
theorem circuitsAfter_eq (p : CircuitId) :
    circuitsAfter p =
      ([1, 2, 3, 4, 5, 6, 7, 8] : List Nat).map fun k => ⟨(p.val + k) % 8, Nat.mod_lt _ (by decide)⟩ := by
  revert p
  decide

theorem LinkSlot.choice_eq (slot : LinkSlot) :
    slot.choice =
      match slot.answer, slot.standing with
      | some x, _ => some (.linkAnswer x)
      | none, some x => if slot.due = true then some (.linkStanding x) else none
      | none, none => none := by
  obtain ⟨answer, standing, due⟩ := slot
  cases answer <;> cases standing <;> cases due <;> rfl

theorem RetryUnit.choice_eq (r : RetryUnit) :
    r.choice = r.replayPointer.bind fun i => (r.entries[i]?).map fun e => .resend i e := by
  unfold RetryUnit.choice
  cases r.replayPointer <;> rfl

theorem State.dataEligible_iff (s : State) (c : CircuitId) :
    s.dataEligible c = true ↔
      (((s.ctx c).state = .connected ∨ (s.ctx c).state = .releasing)
        ∧ (s.ctx c).creditLimit - (s.ctx c).sentCount ≠ 0) ∧ (s.cells c).sendQueue ≠ [] := by
  simp only [State.dataEligible, Context.credit, Bool.and_eq_true, Bool.or_eq_true, beq_iff_eq, bne_iff_ne,
    Bool.not_eq_true', List.isEmpty_eq_false_iff]
  exact and_right_comm

/-- An empty send queue has no head to send, so that eligibility need not name it. -/
theorem State.dataChoice_eq (s : State) :
    s.dataChoice =
      (circuitsAfter s.transmit.dataPointer).findSome? fun c =>
        if ((s.ctx c).state = .connected ∨ (s.ctx c).state = .releasing)
            ∧ (s.ctx c).creditLimit - (s.ctx c).sentCount ≠ 0 then
          (s.cells c).sendQueue.head?.map (Choice.data c)
        else none := by
  refine congrArg (fun pick => (circuitsAfter s.transmit.dataPointer).findSome? pick) (funext fun c => ?_)
  simp only [State.dataEligible_iff, ite_and]
  cases (s.cells c).sendQueue <;> simp

theorem State.firstChoice_eq (s : State) :
    s.firstChoice =
      if s.retry.replayPointer = none ∧ s.retry.entries.length < 48 then s.wordChoice <|> s.dataChoice else none := by
  have hfree : (s.retry.replayPointer.isNone && s.retry.hasRoom) = true ↔
      s.retry.replayPointer = none ∧ s.retry.entries.length < 48 := by
    rw [Bool.and_eq_true, Option.isNone_iff_eq_none]
    exact and_congr_right' decide_eq_true_iff
  simp only [State.firstChoice, hfree, Option.or_eq_orElse]
  rfl

theorem Slots.freeRequest_eq (l : Slots) (hang : Bool) :
    l.freeRequest hang =
      l.request.bind fun w =>
        if w.heldForDraining = false ∧ w.heldForRouse = false ∧ (decide (w.word = .hang)) = hang then
          some ⟨.request, w.word.toControl, w.callNumber⟩
        else none := by
  have hfree (w : RequestSlot) : (w.isFree && (w.word == .hang) == hang) = true ↔
      w.heldForDraining = false ∧ w.heldForRouse = false ∧ decide (w.word = .hang) = hang := by
    rw [RequestSlot.isFree, Bool.and_eq_true, Bool.and_eq_true, Bool.not_eq_true', Bool.not_eq_true', beq_iff_eq,
      and_assoc]
    rfl
  unfold Slots.freeRequest
  cases l.request with
  | none => rfl
  | some w => simp only [hfree, Option.bind_some]

theorem Slots.nextWord_eq (l : Slots) :
    l.nextWord =
      ((l.answer.map fun a => ⟨.answer, a.word.toControl, a.callNumber⟩) <|> l.freeRequest false
        <|> (l.credit.map fun k => ⟨.credit, .credit k.count, k.callNumber⟩) <|> l.freeRequest true) := by
  unfold Slots.nextWord
  cases l.answer with
  | some a => rfl
  | none =>
    cases l.freeRequest false with
    | some w => rfl
    | none => cases l.credit <;> rfl

end Sys2Proof.Machine
end

section
/-!
THEOREMS. The Arbiter, the taking of frames, and the frames on the trunk pair.
-/

namespace Sys2Proof.Proofs

open Sys2Proof Sys2Proof.Machine

/-- Settles O52: the choice part by part, then by the trunk state. -/
theorem arbiterOrder : Obligations.ArbiterOrder := by
  intro s l slot link ackNak replay turn words data first request
  have hlink : s.transmit.linkSlot.choice = link := s.transmit.linkSlot.choice_eq
  have hreplay : s.retry.choice = replay := s.retry.choice_eq
  have hturn : circuitsAfter = turn := funext circuitsAfter_eq
  have hwords : s.wordChoice = words := by rw [State.wordChoice, hturn]
  have hdata : s.dataChoice = data := by rw [State.dataChoice_eq, hturn]
  have hfirst : s.firstChoice = first := by rw [State.firstChoice_eq, hwords, hdata]
  have hrequest : l.freeRequest = request := funext l.freeRequest_eq
  refine ⟨fun hbusy => ?_, fun hidle hnone => ?_, fun x hidle hx => ?_, ?_, ?_⟩
  · obtain ⟨w, hw⟩ := Option.ne_none_iff_exists'.mp hbusy
    rw [State.arbitrate, hw]
  · rw [State.arbitrate, hidle, hnone]
  · rw [State.arbitrate, hidle, hx]
  · rw [State.choice, hlink, hreplay, hfirst]
    cases s.link.state with
    | up =>
      refine Option.or_assoc.trans ?_
      simp only [Option.or_eq_orElse]
      rfl
    | napAsking => exact Option.or_none.trans Option.or_eq_orElse
    | down | training | retune | nap | rousing | closing | fault => exact Option.or_none.trans Option.or_none
  · rw [Slots.nextWord_eq, hrequest]

/-- Settles O54: the check value is cut off and met, and the layout of the covered bytes gives the frame back. -/
theorem trunkFrameRoundTrip : Obligations.TrunkFrameRoundTrip := by
  intro f hdata hside
  rw [runCommand, readTrunkFrame_trunkFrameBytes, coveredFrame_coveredBytes hdata hside]

end Sys2Proof.Proofs
end

section
/-!
SUPPORT. The bytes of the frame in transmission, and what taking a control word or a data cell does.
-/

namespace Sys2Proof.Machine

theorem State.setCtx_ctx (s : State) (c : CircuitId) : s.setCtx c (s.ctx c) = s := by
  rw [State.setCtx, State.ctx, PerCircuit.set_get]

/-- A slot that a taken word leaves; the overflow moves into an emptied REQUEST slot (R101, R112). -/
theorem Slots.without_eq (l : Slots) (slot : SlotName) :
    l.without slot =
      match slot with
      | .answer => { l with answer := none }
      | .credit => { l with credit := none }
      | .request => { l with request := l.overflow.map fun m => ⟨.hang, m, false, false⟩, overflow := none } := by
  obtain ⟨request, overflow, answer, credit⟩ := l
  cases slot <;> cases overflow <;> rfl

theorem State.number_eq (s : State) (c : CircuitId) (content : EntryContent) :
    s.number c content =
      { s with
        retry :=
          { s.retry with
            entries := s.retry.entries ++ [⟨s.retry.nextSequence, c, content, 1⟩]
            nextSequence := s.retry.nextSequence + 1
            replayTimer :=
              if s.retry.entries = [] ∧ s.link.state = .up then some s.port.parameters.ackTimeout
              else s.retry.replayTimer } } := by
  have hstarts : (s.retry.entries.isEmpty && s.link.state == .up) = true ↔
      s.retry.entries = [] ∧ s.link.state = .up := by
    rw [Bool.and_eq_true, List.isEmpty_iff, beq_iff_eq]
  rw [State.number]
  simp only [hstarts]

@[simp] theorem State.dataNumbered_ctx (s : State) (c : CircuitId) (payload : Payload) :
    (s.dataNumbered c payload).ctx c = { s.ctx c with sentCount := (s.ctx c).sentCount + 1 } := by
  rw [State.dataNumbered, State.number_ctx, State.ctx_setCtx, if_pos rfl]

@[simp] theorem State.dataNumbered_sendQueue (s : State) (c : CircuitId) (payload : Payload) :
    ((s.dataNumbered c payload).cells c).sendQueue = (s.cells c).sendQueue.tail := by
  rw [State.dataNumbered, State.number_cells, State.setCtx_cells, State.cells_setCells, if_pos rfl]

section

variable {s : State} {c : CircuitId} {x : Context} {rest : List Payload}

/-- The marker and the notice of a send queue that became shorter (R72). -/
theorem State.sendQueueShortened_eq (hx : s.ctx c = x) (hqueue : (s.cells c).sendQueue = rest) :
    let room : Bool := x.refusedMarker = true ∧ rest.length ≤ x.sendDepth / 2
    s.sendQueueShortened c =
      { s.setCtx c { x with refusedMarker := x.refusedMarker && !room } with
        notices := { s.notices with raised := s.notices.raised ++ if room = true then [.room c] else [] } } := by
  intro room
  have hroom : (x.refusedMarker && decide (rest.length ≤ x.sendDepth / 2)) = room := by
    simp only [room, Bool.decide_and, Bool.decide_eq_true]
  rw [State.sendQueueShortened, hx, hqueue, hroom]
  by_cases h : room = true
  · rw [if_pos h, if_pos h, h, Bool.not_true, Bool.and_false]
    rfl
  · rw [if_neg h, if_neg h, Bool.eq_false_of_not_eq_true h, Bool.not_false, Bool.and_true, List.append_nil, ← hx]
    exact (s.setCtx_ctx c).symm

/-- What the taking of a data cell leaves to a send queue that became empty (R38, R103). -/
theorem State.sendQueueEmptied_ite (hx : s.ctx c = x) :
    let quieting : Bool := rest = [] ∧ x.state = .connected ∧ x.quietMarker = true
    (if rest.isEmpty then s.sendQueueEmptied c else s) =
      { s.setCtx c (if quieting = true then { x with state := .quieting, lastCause := some .host } else x) with
        notices := { s.notices with raised := s.notices.raised ++ if quieting = true then [.state c] else [] }
        transmit :=
          { s.transmit with
            slots :=
              if rest = [] then s.transmit.slots.set c (s.slots c).clearDraining else s.transmit.slots } } := by
  intro quieting
  subst hx
  cases rest with
  | cons payload rest =>
    have hquiet : quieting = false := decide_eq_false fun h => nomatch h.1
    rw [hquiet]
    simp only [List.isEmpty_cons, reduceCtorEq, if_false, List.append_nil]
    exact (s.setCtx_ctx c).symm
  | nil =>
    have hquiet : quieting = true ↔ (s.ctx c).state = .connected ∧ (s.ctx c).quietMarker = true :=
      decide_eq_true_iff.trans (and_iff_right rfl)
    simp only [List.isEmpty_nil, if_true, hquiet, State.sendQueueEmptied_eq]
    split
    · rfl
    · rw [List.append_nil, State.setCtx_ctx]
      rfl

end

end Sys2Proof.Machine
end

section
/-!
THEOREMS. The taking of frames, and the frames on the trunk pair.
-/

namespace Sys2Proof.Proofs

open Sys2Proof Sys2Proof.Machine

/-- Settles O53: the bytes layout by layout, then the taking of each kind of frame. -/
theorem takingAFrame : Obligations.TakingAFrame := by
  refine ⟨fun s o f h => ?_, fun s x k i e => ?_, fun s c w payload rest => ?_⟩
  · intro word covered check
    have hbytes : trunkFrameBytes f = covered ++ check := by
      cases f with
      | data => rfl
      | control q c w k => cases w <;> rfl
      | signal x => cases x <;> rfl
    obtain ⟨-, hpair⟩ := State.outputs_running h
    exact ⟨fun hidle => by rw [hpair, hidle]; rfl, fun hwire => by rw [hpair, hwire, ← hbytes]; rfl⟩
  · obtain ⟨sequence, circuit, content, transmissions⟩ := e
    refine ⟨rfl, rfl, ?_, ?_⟩
    · cases k <;> rfl
    · cases content <;> rfl
  · intro k x l numbered emptied room sent quieting
    refine ⟨?_, fun hqueue => ?_⟩
    · have hslots : l.without w.slot = emptied := l.without_eq w.slot
      have hnumber : (s.setSlots c emptied).number c (.control w.word w.callNumber) =
          { s.setSlots c emptied with retry := numbered (.control w.word w.callNumber) } := State.number_eq _ _ _
      have htake : s.take (.word c w) =
          (let n := (s.setSlots c (l.without w.slot)).number c (.control w.word w.callNumber)
          State.send { n with transmit := { n.transmit with controlPointer := c } } .firstControl
            (.control k c w.word w.callNumber)) := rfl
      rw [htake, hslots, hnumber]
      rfl
    · have htail : ((s.dataNumbered c payload).cells c).sendQueue = rest := by
        rw [State.dataNumbered_sendQueue, hqueue, List.tail_cons]
      have hshortened := State.sendQueueShortened_eq (s.dataNumbered_ctx c payload) htail
      have hsent : ((s.dataNumbered c payload).sendQueueShortened c).ctx c = sent := by
        rw [hshortened]
        show (State.setCtx _ c _).ctx c = _
        rw [State.ctx_setCtx, if_pos rfl]
      have hemptied := State.sendQueueEmptied_ite (rest := rest) hsent
      rw [State.take, State.takeData_eq]
      dsimp only
      rw [State.sendQueueShortened_cells, htail, hemptied, hshortened, State.dataNumbered, hqueue, State.number_eq]
      simp only [State.setCtx, PerCircuit.set_set]
      rfl

end Sys2Proof.Proofs
end
